-- ==== Sys2Proof/Word.lean ====
section
/-! DEFINITION. The machine's word types: the byte every bus transaction moves, the 16-bit CPU (and PPU) address, and the
list of cells a byte array is held as. -/

namespace Sys2Proof

/-- One byte of data (00_scope.md R7: `DATA_W` = 8 bits). -/
abbrev Byte := BitVec 8

/-- A CPU address, or the 16-bit word of a PPU fetch (00_scope.md R7: `ADDR_W` = 16 bits; 30_encoding.md R90). -/
abbrev Addr := BitVec 16

/-- The operand `N` of an event, 16 bits (30_encoding.md R94). -/
abbrev Operand := BitVec 16

/-- An array of bytes, held as its listed cells: index and byte, indices strictly rising, no cell equal to what an
unlisted index reads as (`Memory.wf`; log 14). -/
abbrev Memory := List Host.Cell

end Sys2Proof
end

