-- ==== Sys2Proof/Config.lean ====
section
/-! DEFINITION. What is fixed for the machine: the sizes of 00_scope.md R7, the defaults of its parameters, and the
parameters and free values that the spec leaves open, which are opaque constants. -/

namespace Sys2Proof.Config

/-- `WRAM_SIZE`: the work-RAM buffer is 8192 bytes (00_scope.md R7, 10_state.md R34). -/
def wramSize : Nat := 8192

/-- What an unlisted byte of a byte array reads as: 0x00, the work RAM's value at instance creation
(10_state.md R34, 45_lifecycle.md R250; log 14). -/
def unlistedByte : Byte := 0x00

/-- The default of `READ_DEFAULT` (00_scope.md R7; log 6). -/
def readDefaultDefault : Byte := 0x04

/-- The default of `LASTSTROBE_POWER_163` (00_scope.md R7; log 6). -/
def lastStrobePower163Default : Byte := 0x01

/-- `PRG32_MASK`, OPEN: the bank-mapping service's reduction of a PRG 32 KiB bank index (20_memory.md R74; log 5). -/
opaque prg32Mask : BitVec 12

/-- `CHR4_MASK`, OPEN: the bank-mapping service's reduction of a CHR 4 KiB bank index (20_memory.md R74; log 5). -/
opaque chr4Mask : Byte

/-- `PRGROM`, a parameter: the cartridge's PRG storage, byte by byte (40_write_decoder.md R147; log 5). -/
opaque prgRom : Nat → Byte

/-- `CHRMEM`, a parameter: the cartridge's CHR storage, byte by byte (40_write_decoder.md R149; log 5). -/
opaque chrMem : Nat → Byte

/-- The free value of an undriven read: the byte the environment shows on the bus at the `n`-th undriven read
(00_scope.md R11, 92_eei_decisions.md D7; log 4). -/
opaque busDraw : Nat → Byte

/-- The formula of case 0/2 in the `n`-th set of formulas that `FS304_FORMULAS` can be beside the default, of `reg[0]`,
`reg[1]` and `reg[2]` (00_scope.md R7, 92_eei_decisions.md D5; log 7). -/
opaque fs304Case02 : Nat → Byte → Byte → Byte → Byte

/-- The formula of case 1/3 in the `n`-th other set of formulas (00_scope.md R7; log 7). -/
opaque fs304Case13 : Nat → Byte → Byte → Byte → Byte

/-- The formula of case 4/6 in the `n`-th other set of formulas (00_scope.md R7; log 7). -/
opaque fs304Case46 : Nat → Byte → Byte → Byte → Byte

end Sys2Proof.Config
end

