-- ==== Sys2Proof/Syntax.lean ====
section
/-! DEFINITION. The syntax of the machine's inputs: the board variants, the saved fields, the instructions (one
constructor per row of spec/opcode_table.json) and the deliveries, which are transactions as encoded words. -/

namespace Sys2Proof

/-- `VARIANT`: the board variant of an instance (00_scope.md R1, R7). -/
inductive Variant where
  | v164
  | v163
  | vFS304
  | vTemplate
deriving DecidableEq, Repr

/-- A byte string: how many bytes it has, and its listed cells (an unlisted byte reads as `Config.unlistedByte`). Saved
fields and battery images are byte strings in index order (20_memory.md R66, 44_persistence.md R231; log 14). -/
structure Bytes where
  size  : Nat
  cells : Memory
deriving DecidableEq, Repr

/-- The tag of a saved field (44_persistence.md R230); `other` is a tag the block does not register. -/
inductive Tag where
  | stb
  | trg
  | regs
  | wram
  | other (name : String)
deriving DecidableEq, Repr

/-- One tagged field of a saved state (44_persistence.md R230). -/
structure SavedField where
  tag   : Tag
  bytes : Bytes
deriving DecidableEq, Repr

/-- The instructions of the block: its transactions, one constructor per row of spec/opcode_table.json.
`a` is the CPU address `A`, `p` the PPU address `P`, `d` the written value `D`, `n` the operand `N` of an event
(30_encoding.md R91-R95). A row whose match leaves no bit free has no operand. -/
inductive Instr where
  -- configuration writes and reads, variant 164 (40_write_decoder.md R121-R124, R133)
  | w164Reg1 (a : Addr) (d : Byte)
  | w164Reg0 (a : Addr) (d : Byte)
  | w164Reg3 (a : Addr) (d : Byte)
  | w164Reg2 (a : Addr) (d : Byte)
  | r164Cfg (a : Addr)
  -- variant 163 (40_write_decoder.md R126-R131; 43_protection_latch.md R211, R214-R217)
  | w163Strobe (d : Byte)
  | w163ForcePrg
  | w163Reg1 (a : Addr) (d : Byte)
  | w163Reg3 (a : Addr) (d : Byte)
  | w163Reg0 (a : Addr) (d : Byte)
  | w163Reg2 (a : Addr) (d : Byte)
  | r163Trig (a : Addr)
  | r163Status (a : Addr)
  | r163Default (a : Addr)
  -- variant UNLFS304 (40_write_decoder.md R134-R139)
  | wfsReg0 (a : Addr) (d : Byte)
  | wfsReg1 (a : Addr) (d : Byte)
  | wfsReg2 (a : Addr) (d : Byte)
  | wfsReg3 (a : Addr) (d : Byte)
  | rfsCfg (a : Addr)
  -- variant Template (40_write_decoder.md R140, R141, R150, R151)
  | wtNop (a : Addr) (d : Byte)
  | rtCfg (a : Addr)
  | wtWramW (a : Addr) (d : Byte)
  | wtWramR (a : Addr)
  -- window accesses (40_write_decoder.md R145-R149)
  | wramW (a : Addr) (d : Byte)
  | wramR (a : Addr)
  | prgR (a : Addr)
  | prgW (a : Addr) (d : Byte)
  | chrR (p : Addr)
  -- scanline events (42_scanline_hook.md R191-R197)
  | ev163Sl239
  | ev163Sl127
  | ev163SlOther (n : Operand)
  | ev164Sl (n : Operand)
  | evfsSl (n : Operand)
  | evtSl (n : Operand)
  -- lifecycle and persistence events (45_lifecycle.md R250-R256; 44_persistence.md R232-R238)
  | power164 (n : Operand)
  | power163 (n : Operand)
  | powerFs304 (n : Operand)
  | powerT (n : Operand)
  | reset (n : Operand)
  | save (n : Operand)
  | saveT (n : Operand)
  | restore (n : Operand) (fields : List SavedField)
  | restoreT (n : Operand) (fields : List SavedField)
  | teardown (n : Operand)
  | create (upper : BitVec 13) (battery : Bool) (v : Variant)
  | batload (n : Operand) (image : Bytes)
  | batsave (n : Operand)
deriving DecidableEq, Repr

/-- The payload that comes with an event beside its word (30_encoding.md R94): a set of tagged fields for RESTORE, an
image for BATLOAD, nothing for the others. -/
inductive Payload where
  | none
  | fields (fs : List SavedField)
  | image (bytes : Bytes)
deriving DecidableEq, Repr

/-- A transaction as a collaborator delivers it: its format and its word (30_encoding.md R90), with an event's payload. -/
inductive Delivery where
  | busw (w : BitVec 24)
  | busr (w : BitVec 16)
  | ppur (w : BitVec 16)
  | evt (w : BitVec 24) (payload : Payload)
deriving DecidableEq, Repr

end Sys2Proof
end

