-- ==== Sys2Proof/WellFormed.lean ====
section
/-! DEFINITION. When an instruction is well-formed: its operands are ones its row of the opcode table admits; and which
variants a row belongs to (the table's `variant` column). -/

namespace Sys2Proof

/-- The cells are in canonical form from index `lo`: indices strictly rising, all below `size`, no listed byte equal to
what an unlisted index reads as. -/
def Memory.wfFrom (size : Nat) : Nat → Memory → Bool
  | _, [] => true
  | lo, (k, b) :: rest =>
    decide (lo ≤ k) && decide (k < size) && decide (b ≠ Config.unlistedByte) && Memory.wfFrom size (k + 1) rest

/-- The canonical form of a byte array of `size` bytes: equal arrays are equal lists (log 14). -/
def Memory.wf (size : Nat) (m : Memory) : Bool :=
  Memory.wfFrom size 0 m

/-- A byte string is well-formed when its cells are in canonical form below its size. -/
def Bytes.wf (b : Bytes) : Bool :=
  Memory.wf b.size b.cells

/-- A set of tagged fields: no tag twice, every byte string well-formed (44_persistence.md R230, R234). -/
def fieldsWf (fs : List SavedField) : Bool :=
  decide (fs.map SavedField.tag).Nodup && fs.all fun f => f.bytes.wf

/-- `A` is in the configuration range, `A[15:12] = 0x5` (30_encoding.md R91). -/
def inCfgRange (a : Addr) : Bool :=
  decide (a.extractLsb' 12 4 = 0x5#4)

/-- `A` is in the configuration range with `A[9:8] = sel` (30_encoding.md R96). -/
def inCfgWrite (sel : BitVec 2) (a : Addr) : Bool :=
  inCfgRange a && decide (a.extractLsb' 8 2 = sel)

/-- `A` is in the work-RAM range, `A[15:13] = 011` (30_encoding.md R98). -/
def inWramRange (a : Addr) : Bool :=
  decide (a.extractLsb' 13 3 = 0x3#3)

/-- `A` is in the PRG window, `A[15] = 1` (30_encoding.md R98). -/
def inPrgRange (a : Addr) : Bool :=
  decide (a.extractLsb' 15 1 = 0x1#1)

/-- The operands are ones the instruction's row admits, by its match and mask and, for the rows of variant 163, by the
rows tested before it (30_encoding.md R96-R98; 40_write_decoder.md R126; 43_protection_latch.md R214). -/
def Instr.wellFormed : Instr → Bool
  | .w164Reg1 a _ => inCfgWrite 0 a
  | .w164Reg0 a _ => inCfgWrite 1 a
  | .w164Reg3 a _ => inCfgWrite 2 a
  | .w164Reg2 a _ => inCfgWrite 3 a
  | .r164Cfg a => inCfgRange a
  | .w163Strobe _ => true
  | .w163ForcePrg => true
  | .w163Reg1 a _ => inCfgWrite 0 a
  | .w163Reg3 a d => inCfgWrite 1 a && decide (a ≠ 0x5101) && decide (¬(a = 0x5100 ∧ d = 0x06))
  | .w163Reg0 a _ => inCfgWrite 2 a
  | .w163Reg2 a _ => inCfgWrite 3 a
  | .r163Trig a => inCfgRange a && decide (a.extractLsb' 8 3 = 0x5#3)
  | .r163Status a => inCfgRange a && decide (a.extractLsb' 8 3 = 0x1#3)
  | .r163Default a =>
    inCfgRange a && decide (a.extractLsb' 8 3 ≠ 0x5#3) && decide (a.extractLsb' 8 3 ≠ 0x1#3)
  | .wfsReg0 a _ => inCfgWrite 0 a
  | .wfsReg1 a _ => inCfgWrite 1 a
  | .wfsReg2 a _ => inCfgWrite 2 a
  | .wfsReg3 a _ => inCfgWrite 3 a
  | .rfsCfg a => inCfgRange a
  | .wtNop a _ => inCfgRange a
  | .rtCfg a => inCfgRange a
  | .wtWramW a _ => inWramRange a
  | .wtWramR a => inWramRange a
  | .wramW a _ => inWramRange a
  | .wramR a => inWramRange a
  | .prgR a => inPrgRange a
  | .prgW a _ => inPrgRange a
  | .chrR p => decide (p.extractLsb' 13 3 = 0x0#3)
  | .ev163Sl239 => true
  | .ev163Sl127 => true
  | .ev163SlOther n => decide (n ≠ 239) && decide (n ≠ 127)
  | .ev164Sl _ => true
  | .evfsSl _ => true
  | .evtSl _ => true
  | .power164 _ => true
  | .power163 _ => true
  | .powerFs304 _ => true
  | .powerT _ => true
  | .reset _ => true
  | .save _ => true
  | .saveT _ => true
  | .restore _ fs => fieldsWf fs
  | .restoreT _ fs => fieldsWf fs
  | .teardown _ => true
  | .create _ _ _ => true
  | .batload _ image => image.wf && decide (image.size = Config.wramSize)
  | .batsave _ => true

/-- The variants whose decoder has the row (the opcode table's `variant` column). BATLOAD and BATSAVE reach every
variant: 44_persistence.md R237 and R238 give the template an answer too. -/
def Instr.inVariant (v : Variant) : Instr → Bool
  | .w164Reg1 _ _ | .w164Reg0 _ _ | .w164Reg3 _ _ | .w164Reg2 _ _ | .r164Cfg _ => decide (v = .v164)
  | .w163Strobe _ | .w163ForcePrg | .w163Reg1 _ _ | .w163Reg3 _ _ | .w163Reg0 _ _ | .w163Reg2 _ _ => decide (v = .v163)
  | .r163Trig _ | .r163Status _ | .r163Default _ => decide (v = .v163)
  | .wfsReg0 _ _ | .wfsReg1 _ _ | .wfsReg2 _ _ | .wfsReg3 _ _ | .rfsCfg _ => decide (v = .vFS304)
  | .wtNop _ _ | .rtCfg _ | .wtWramW _ _ | .wtWramR _ => decide (v = .vTemplate)
  | .wramW _ _ | .wramR _ => decide (v ≠ .vTemplate)
  | .prgR _ | .prgW _ _ | .chrR _ => true
  | .ev163Sl239 | .ev163Sl127 | .ev163SlOther _ => decide (v = .v163)
  | .ev164Sl _ => decide (v = .v164)
  | .evfsSl _ => decide (v = .vFS304)
  | .evtSl _ => decide (v = .vTemplate)
  | .power164 _ => decide (v = .v164)
  | .power163 _ => decide (v = .v163)
  | .powerFs304 _ => decide (v = .vFS304)
  | .powerT _ => decide (v = .vTemplate)
  | .reset _ | .teardown _ | .create _ _ _ | .batload _ _ | .batsave _ => true
  | .save _ | .restore _ _ => decide (v ≠ .vTemplate)
  | .saveT _ | .restoreT _ _ => decide (v = .vTemplate)

end Sys2Proof
end

