-- ==== Sys2Proof/Decode.lean ====
section
/-! DEFINITION. The decoder, total on every delivery and rejecting by name (30_encoding.md R90-R100), and after it the
encoder, written from the same tables. -/

namespace Sys2Proof

/-- Why a delivery is no transaction of the block. -/
inductive DecodeError where
  /-- A CPU access below 0x5000: never delivered to the block (20_memory.md R60, 30_encoding.md R98). -/
  | notDelivered
  /-- A PPU fetch outside the pattern space, `P ≥ 0x2000` (30_encoding.md R90). -/
  | badPatternAddress
  /-- An event code that names no event (30_encoding.md R94). -/
  | badEvent
  /-- An event with a payload of another kind than its own (30_encoding.md R94; log 10). -/
  | badPayload
  /-- A restore payload that is no set of tagged byte strings: a tag twice, or a byte string not in canonical form (log 10). -/
  | badFieldSet
  /-- A battery image that is not 8192 bytes in canonical form (44_persistence.md R237; log 10). -/
  | badImage
deriving DecidableEq, Repr

/-- The address of a `BUSW` word, `W[23:8]` (30_encoding.md R91). -/
def buswAddr (w : BitVec 24) : Addr := w.extractLsb' 8 16

/-- The value of a `BUSW` word, `W[7:0]` (30_encoding.md R91). -/
def buswData (w : BitVec 24) : Byte := w.extractLsb' 0 8

/-- The code of an `EVT` word, `W[23:16]` (30_encoding.md R94). -/
def evtCode (w : BitVec 24) : Byte := w.extractLsb' 16 8

/-- The operand of an `EVT` word, `W[15:0]` (30_encoding.md R94). -/
def evtOperand (w : BitVec 24) : Operand := w.extractLsb' 0 16

/-- The register-select field of every write decoder, `A[9:8]` (30_encoding.md R91). -/
def writeSel (a : Addr) : BitVec 2 := a.extractLsb' 8 2

/-- The register-select field of the variant-163 read decoder, `A[10:8]` (30_encoding.md R91). -/
def readSel (a : Addr) : BitVec 3 := a.extractLsb' 8 3

/-- The range test of the configuration registers, `A[15:12] = 0x5` (30_encoding.md R91). -/
def isCfgAddr (a : Addr) : Bool := decide (a.extractLsb' 12 4 = 0x5#4)

/-- The range test of the work RAM, `A[15:13] = 011` (30_encoding.md R98). -/
def isWramAddr (a : Addr) : Bool := decide (a.extractLsb' 13 3 = 0x3#3)

/-- The range test of the PRG window, `A[15] = 1` (30_encoding.md R98). -/
def isPrgAddr (a : Addr) : Bool := decide (a.extractLsb' 15 1 = 0x1#1)

/-- The variant named by `N[1:0]` of CREATE (30_encoding.md R94). -/
def variantOfCode (c : BitVec 2) : Variant :=
  if c = 0 then .v164 else if c = 1 then .v163 else if c = 2 then .vFS304 else .vTemplate

/-- Variant 164's write decoder (30_encoding.md R96; 40_write_decoder.md R121-R124). -/
def decodeWrite164 (a : Addr) (d : Byte) : Instr :=
  if writeSel a = 0 then .w164Reg1 a d
  else if writeSel a = 1 then .w164Reg0 a d
  else if writeSel a = 2 then .w164Reg3 a d
  else .w164Reg2 a d

/-- Variant 163's write decoder: the strobe port, then the quirk pair, then the register select
(40_write_decoder.md R126). -/
def decodeWrite163 (a : Addr) (d : Byte) : Instr :=
  if a = 0x5101 then .w163Strobe d
  else if a = 0x5100 ∧ d = 0x06 then .w163ForcePrg
  else if writeSel a = 0 then .w163Reg1 a d
  else if writeSel a = 1 then .w163Reg3 a d
  else if writeSel a = 2 then .w163Reg0 a d
  else .w163Reg2 a d

/-- Variant UNLFS304's write decoder, `reg[A[9:8]]` (40_write_decoder.md R134). -/
def decodeWriteFs304 (a : Addr) (d : Byte) : Instr :=
  if writeSel a = 0 then .wfsReg0 a d
  else if writeSel a = 1 then .wfsReg1 a d
  else if writeSel a = 2 then .wfsReg2 a d
  else .wfsReg3 a d

/-- A configuration write, by variant (30_encoding.md R96). -/
def decodeCfgWrite (v : Variant) (a : Addr) (d : Byte) : Instr :=
  match v with
  | .v164 => decodeWrite164 a d
  | .v163 => decodeWrite163 a d
  | .vFS304 => decodeWriteFs304 a d
  | .vTemplate => .wtNop a d

/-- Variant 163's read handler (30_encoding.md R97; 43_protection_latch.md R214). -/
def decodeRead163 (a : Addr) : Instr :=
  if readSel a = 1 then .r163Status a
  else if readSel a = 5 then .r163Trig a
  else .r163Default a

/-- A configuration read, by variant (30_encoding.md R97). -/
def decodeCfgRead (v : Variant) (a : Addr) : Instr :=
  match v with
  | .v164 => .r164Cfg a
  | .v163 => decodeRead163 a
  | .vFS304 => .rfsCfg a
  | .vTemplate => .rtCfg a

/-- A work-RAM write: the template has a row of its own (40_write_decoder.md R145, R150). -/
def decodeWramWrite (v : Variant) (a : Addr) (d : Byte) : Instr :=
  if v = .vTemplate then .wtWramW a d else .wramW a d

/-- A work-RAM read: the template has a row of its own (40_write_decoder.md R146, R151). -/
def decodeWramRead (v : Variant) (a : Addr) : Instr :=
  if v = .vTemplate then .wtWramR a else .wramR a

/-- A CPU bus write, by the ranges of 30_encoding.md R96 and R98. -/
def decodeBusWrite (v : Variant) (a : Addr) (d : Byte) : Except DecodeError Instr :=
  if isPrgAddr a then .ok (.prgW a d)
  else if isWramAddr a then .ok (decodeWramWrite v a d)
  else if isCfgAddr a then .ok (decodeCfgWrite v a d)
  else .error .notDelivered

/-- A CPU bus read, by the ranges of 30_encoding.md R97 and R98. -/
def decodeBusRead (v : Variant) (a : Addr) : Except DecodeError Instr :=
  if isPrgAddr a then .ok (.prgR a)
  else if isWramAddr a then .ok (decodeWramRead v a)
  else if isCfgAddr a then .ok (decodeCfgRead v a)
  else .error .notDelivered

/-- A PPU pattern fetch, `P < 0x2000` (30_encoding.md R90, R93). -/
def decodePatternFetch (p : Addr) : Except DecodeError Instr :=
  if p.extractLsb' 13 3 = 0x0#3 then .ok (.chrR p) else .error .badPatternAddress

/-- A scanline event, by variant; variant 163 tests 239 and 127 before the rest (42_scanline_hook.md R191-R197). -/
def decodeScanline (v : Variant) (n : Operand) : Instr :=
  match v with
  | .v164 => .ev164Sl n
  | .v163 => if n = 239 then .ev163Sl239 else if n = 127 then .ev163Sl127 else .ev163SlOther n
  | .vFS304 => .evfsSl n
  | .vTemplate => .evtSl n

/-- A power-on, by variant (45_lifecycle.md R251-R254). -/
def decodePower (v : Variant) (n : Operand) : Instr :=
  match v with
  | .v164 => .power164 n
  | .v163 => .power163 n
  | .vFS304 => .powerFs304 n
  | .vTemplate => .powerT n

/-- A save (44_persistence.md R232, R233). -/
def decodeSave (v : Variant) (n : Operand) : Instr :=
  if v = .vTemplate then .saveT n else .save n

/-- A restore of a set of fields (44_persistence.md R234, R235). -/
def decodeRestore (v : Variant) (n : Operand) (fs : List SavedField) : Except DecodeError Instr :=
  if fieldsWf fs then .ok (if v = .vTemplate then .restoreT n fs else .restore n fs) else .error .badFieldSet

/-- A creation: `N = {…, BATTERY, VARIANT[1:0]}` (30_encoding.md R94). -/
def decodeCreate (n : Operand) : Instr :=
  .create (n.extractLsb' 3 13) (decide (n.extractLsb' 2 1 = 1#1)) (variantOfCode (n.extractLsb' 0 2))

/-- A battery load of an 8192-byte image (44_persistence.md R237). -/
def decodeBatload (n : Operand) (image : Bytes) : Except DecodeError Instr :=
  if image.wf ∧ image.size = Config.wramSize then .ok (.batload n image) else .error .badImage

/-- An event without a payload, by its code (30_encoding.md R94). RESTORE and BATLOAD come with one. -/
def decodePlainEvent (v : Variant) (e : Byte) (n : Operand) : Except DecodeError Instr :=
  if e = 0x01 then .ok (decodeScanline v n)
  else if e = 0x02 then .ok (decodePower v n)
  else if e = 0x03 then .ok (.reset n)
  else if e = 0x04 then .ok (decodeSave v n)
  else if e = 0x06 then .ok (.teardown n)
  else if e = 0x07 then .ok (decodeCreate n)
  else if e = 0x09 then .ok (.batsave n)
  else if e = 0x05 ∨ e = 0x08 then .error .badPayload
  else .error .badEvent

/-- The event codes of 30_encoding.md R94. -/
def isEventCode (e : Byte) : Bool :=
  decide (0x01 ≤ e) && decide (e ≤ 0x09)

/-- An event with its payload, by its code (30_encoding.md R94). -/
def decodeEvent (v : Variant) (e : Byte) (n : Operand) : Payload → Except DecodeError Instr
  | .none => decodePlainEvent v e n
  | .fields fs =>
    if e = 0x05 then decodeRestore v n fs else .error (if isEventCode e then .badPayload else .badEvent)
  | .image b =>
    if e = 0x08 then decodeBatload n b else .error (if isEventCode e then .badPayload else .badEvent)

/-- The decoder: the row a delivery stands for in an instance of variant `v`, or why it is none. Decoding depends on
nothing else (30_encoding.md R100). -/
def decode (v : Variant) : Delivery → Except DecodeError Instr
  | .busw w => decodeBusWrite v (buswAddr w) (buswData w)
  | .busr w => decodeBusRead v w
  | .ppur w => decodePatternFetch w
  | .evt w payload => decodeEvent v (evtCode w) (evtOperand w) payload

/-- A `BUSW` delivery, `{A, D}` (30_encoding.md R90). -/
def wr (a : Addr) (d : Byte) : Delivery := .busw (a ++ d)

/-- An `EVT` delivery, `{E, N}`, without a payload (30_encoding.md R90). -/
def ev (e : Byte) (n : Operand) : Delivery := .evt (e ++ n) .none

/-- `VARIANT[1:0]` of CREATE (30_encoding.md R94). -/
def variantCode : Variant → BitVec 2
  | .v164 => 0
  | .v163 => 1
  | .vFS304 => 2
  | .vTemplate => 3

/-- The operand of CREATE, `{…, BATTERY, VARIANT[1:0]}` (30_encoding.md R94). -/
def createOperand (upper : BitVec 13) (battery : Bool) (v : Variant) : Operand :=
  upper ++ (BitVec.ofBool battery ++ variantCode v)

/-- The encoder: the delivery of an instruction, from the formats and codes of 30_encoding.md R90-R94. -/
def encode : Instr → Delivery
  | .w164Reg1 a d => wr a d
  | .w164Reg0 a d => wr a d
  | .w164Reg3 a d => wr a d
  | .w164Reg2 a d => wr a d
  | .r164Cfg a => .busr a
  | .w163Strobe d => wr 0x5101 d
  | .w163ForcePrg => wr 0x5100 0x06
  | .w163Reg1 a d => wr a d
  | .w163Reg3 a d => wr a d
  | .w163Reg0 a d => wr a d
  | .w163Reg2 a d => wr a d
  | .r163Trig a => .busr a
  | .r163Status a => .busr a
  | .r163Default a => .busr a
  | .wfsReg0 a d => wr a d
  | .wfsReg1 a d => wr a d
  | .wfsReg2 a d => wr a d
  | .wfsReg3 a d => wr a d
  | .rfsCfg a => .busr a
  | .wtNop a d => wr a d
  | .rtCfg a => .busr a
  | .wtWramW a d => wr a d
  | .wtWramR a => .busr a
  | .wramW a d => wr a d
  | .wramR a => .busr a
  | .prgR a => .busr a
  | .prgW a d => wr a d
  | .chrR p => .ppur p
  | .ev163Sl239 => ev 0x01 239
  | .ev163Sl127 => ev 0x01 127
  | .ev163SlOther n => ev 0x01 n
  | .ev164Sl n => ev 0x01 n
  | .evfsSl n => ev 0x01 n
  | .evtSl n => ev 0x01 n
  | .power164 n => ev 0x02 n
  | .power163 n => ev 0x02 n
  | .powerFs304 n => ev 0x02 n
  | .powerT n => ev 0x02 n
  | .reset n => ev 0x03 n
  | .save n => ev 0x04 n
  | .saveT n => ev 0x04 n
  | .restore n fs => .evt (0x05#8 ++ n) (.fields fs)
  | .restoreT n fs => .evt (0x05#8 ++ n) (.fields fs)
  | .teardown n => ev 0x06 n
  | .create upper battery v => ev 0x07 (createOperand upper battery v)
  | .batload n image => .evt (0x08#8 ++ n) (.image image)
  | .batsave n => ev 0x09 n

/-- The payload a bare table word stands for: operand words of zeros, which are no field for RESTORE and an image of
8192 zero bytes for BATLOAD (log 3). -/
def tablePayload (code : Nat) : Payload :=
  if code = 0x05 then .fields []
  else if code = 0x08 then .image ⟨Config.wramSize, []⟩
  else .none

/-- The delivery a word of the opcode table stands for. The table's formats have 24 bits (`BUSW`, `EVT`) or 16 bits
(`BUSR`, `PPUR`). A `BUSW` word has `A ≥ 0x5000` and an `EVT` code is below 0x50; a `PPUR` word is below 0x2000 and a
`BUSR` word at or above 0x5000: so the word tells the format (log 3). -/
def tableDelivery (nbits w : Nat) : Option Delivery :=
  if nbits = 24 ∧ w < 0x1000000 then
    some (if w < 0x500000 then .evt (BitVec.ofNat 24 w) (tablePayload (w / 0x10000)) else .busw (BitVec.ofNat 24 w))
  else if nbits = 16 ∧ w < 0x10000 then
    some (if w < 0x2000 then .ppur (BitVec.ofNat 16 w) else .busr (BitVec.ofNat 16 w))
  else none

/-- The variant under which a bare table word is read: the variant of `State.reset`. A word does not say its variant
(30_encoding.md R100); variant 163 has the most rows (log 3). -/
def tableVariant : Variant := .v163

/-- The instruction the decoder reads from a table word (log 3). -/
def decodeTableWord (nbits w : Nat) : Option Instr :=
  match tableDelivery nbits w with
  | none => none
  | some dl => (decode tableVariant dl).toOption

end Sys2Proof
end

