-- ==== Sys2Proof/Machine/State.lean ====
section
/-! DEFINITION. The state of the machine as plain data, the reasons a step can stop, and the state after reset. -/

namespace Sys2Proof.Machine

open Sys2Proof

/-- The register file `reg[0..7]`, eight independent bytes (10_state.md R21); `r4` to `r7` are reserved (R22). -/
structure RegFile where
  r0 : Byte
  r1 : Byte
  r2 : Byte
  r3 : Byte
  r4 : Byte
  r5 : Byte
  r6 : Byte
  r7 : Byte
deriving DecidableEq, Repr

/-- `phase` of the instance (10_state.md R35). -/
inductive Phase where
  | created
  | running
  | tornDown
deriving DecidableEq, Repr

/-- `FS304_FORMULAS`: the formulas of UNLFS304's cases 0/2, 1/3 and 4/6 (00_scope.md R7; log 7). -/
inductive Fs304Formulas where
  /-- The default: 41_bank_sync.md R167-R169. -/
  | standard
  /-- Another set of formulas, `Config.fs304Case02`, `fs304Case13` and `fs304Case46` at `n`. -/
  | other (n : Nat)
deriving DecidableEq, Repr

/-- What a power-on installs with the bus dispatch, the rendering pipeline and the cheat/debug subsystem: the columns of
the table of 45_lifecycle.md R257, and R258. -/
structure Handlers where
  cfgWrite     : Bool
  cfgRead      : Bool
  wramAccess   : Bool
  prgRead      : Bool
  scanlineHook : Bool
  irqHook      : Bool
  cheatWram    : Bool
deriving DecidableEq, Repr

/-- What a transaction hands to a collaborator (00_scope.md R8, R11; log 16). -/
inductive Output where
  /-- Nothing. -/
  | none
  /-- `drive(v)`: the byte a bus read or a pattern fetch returns. -/
  | drive (v : Byte)
  /-- `undriven`: the block returns nothing; `draw` is the environment's byte, a free value (log 4). -/
  | undriven (draw : Byte)
  /-- `irq_assert()`: the template's interrupt request (60_exceptions.md R274). -/
  | irqAssert
  /-- The tagged fields a save returns (44_persistence.md R232, R233). -/
  | saved (fields : List SavedField)
  /-- The image a battery save returns (44_persistence.md R238). -/
  | image (bytes : Bytes)
  /-- The handlers a power-on installs (45_lifecycle.md R251-R254, R257, R258). -/
  | installed (handlers : Handlers)
deriving DecidableEq, Repr

/-- Everything the spec gives the machine (10_state.md), the parameters of the instance (00_scope.md R7), and the model's
own `pending`, `out` and `draws` (INVENTORY.md, State). -/
structure State where
  /-- `VARIANT`, written by CREATE alone (10_state.md R20, 45_lifecycle.md R250). -/
  variant : Variant
  /-- `BATTERY`, written by CREATE alone (10_state.md R20, 45_lifecycle.md R250). -/
  battery : Bool
  /-- `reg[0..7]` (10_state.md R21). -/
  reg : RegFile
  /-- `lastStrobe` (10_state.md R28). -/
  lastStrobe : Byte
  /-- `trigger` (10_state.md R29). -/
  trigger : Byte
  /-- `prgWin`: the PRG 32 KiB bank index last pushed (10_state.md R31). -/
  prgWin : Option (BitVec 12)
  /-- `chrLo`: the CHR 4 KiB bank index of the lower half-window (10_state.md R32). -/
  chrLo : Option Byte
  /-- `chrHi`: the CHR 4 KiB bank index of the upper half-window (10_state.md R32). -/
  chrHi : Option Byte
  /-- `wramWin`: whether the work RAM is mapped at 0x6000-0x7FFF (10_state.md R33). -/
  wramWin : Bool
  /-- `wram[0..0x1FFF]` (10_state.md R34). -/
  wram : Memory
  /-- `phase` (10_state.md R35). -/
  phase : Phase
  /-- `READ_DEFAULT`, a parameter: no transaction writes it (00_scope.md R7; log 6). -/
  readDefault : Byte
  /-- `LASTSTROBE_POWER_163`, a parameter: no transaction writes it (00_scope.md R7; log 6). -/
  lastStrobePower163 : Byte
  /-- `FS304_FORMULAS`, a parameter: no transaction writes it (00_scope.md R7; log 7). -/
  fs304Formulas : Fs304Formulas
  /-- The model's own: the transactions still to be delivered, the next one first (20_memory.md R70; log 2). -/
  pending : List Delivery
  /-- The model's own: what the latest transaction handed to a collaborator (log 16). -/
  out : Output
  /-- The model's own: how many undriven reads there have been (log 4). -/
  draws : Nat
deriving DecidableEq, Repr

/-- Why the machine could stop with a fault. There is no constructor: the block raises no exception
(60_exceptions.md R270). Nothing raises one. -/
inductive Fault where
deriving DecidableEq, Repr

/-- Why a transaction is refused: the reasons of 10_state.md R36, then the model's own. A refusal is always safe: nothing
can be proved of a run past it. -/
inductive Refusal where
  /-- Raised by an arm of `exec` whose instruction has no meaning yet. Safe. -/
  | notModelled (mnemonic : String)
  /-- `NotPowered`, raised by a bus, scanline, save, restore or reset transaction in phase `Created` (R36). Safe. -/
  | notPowered
  /-- `TornDown`, raised by any transaction but CREATE after teardown (R36; log 8, log 11). Safe. -/
  | tornDown
  /-- `BadStateField`, raised by RESTORE when a field's length is not the field's size (R36). Safe. -/
  | badStateField
  /-- `NotCreated`, raised by BATLOAD outside phase `Created` (R36). Safe. -/
  | notCreated
  /-- `NoBattery`, raised by BATLOAD and BATSAVE without a battery or for Template (R36). Safe. -/
  | noBattery
  /-- `BadEvent`, raised by the decoder on an `EVT` code that names no event (R36). Safe. -/
  | badEvent
  /-- The model's own, raised by a meaning when the instance is of a variant whose decoder does not have the row; no step
  reaches it (log 9). Safe. -/
  | otherVariant
  /-- The model's own, raised by the decoder on a CPU access below 0x5000, which is never delivered (log 10). Safe. -/
  | notDelivered
  /-- The model's own, raised by the decoder on a pattern fetch with `P ≥ 0x2000` (log 10). Safe. -/
  | badPatternAddress
  /-- The model's own, raised by the decoder on an event with another kind of payload than its own (log 10). Safe. -/
  | badPayload
  /-- The model's own, raised by the decoder on a restore payload that is no set of tagged byte strings (log 10). Safe. -/
  | badFieldSet
  /-- The model's own, raised by the decoder on a battery image that is not 8192 bytes (log 10). Safe. -/
  | badImage
deriving DecidableEq, Repr

/-- What a step or a meaning answers. -/
abbrev Result := Host.Outcome State Fault Refusal

/-- Every register zero, the value at instance creation (10_state.md R27). -/
def RegFile.zero : RegFile :=
  ⟨0x00, 0x00, 0x00, 0x00, 0x00, 0x00, 0x00, 0x00⟩

/-- The machine right after reset: a battery-backed variant-163 instance that has been created and powered on
(45_lifecycle.md R250, R252; 70_reset_and_hazards.md R290; log 1), with nothing delivered yet (log 2). -/
def State.reset : State where
  variant := .v163
  battery := true
  reg := RegFile.zero
  lastStrobe := Config.lastStrobePower163Default
  trigger := 0x00
  prgWin := some 0x000
  chrLo := some 0
  chrHi := some 1
  wramWin := true
  wram := []
  phase := .running
  readDefault := Config.readDefaultDefault
  lastStrobePower163 := Config.lastStrobePower163Default
  fs304Formulas := .standard
  pending := []
  out := .none
  draws := 0

end Sys2Proof.Machine
end

