-- ==== Sys2Proof/Machine/Ops.lean ====
section
/-! DEFINITION. The named operations over memory, registers, window outputs and the machine's interfaces that every
meaning is built from. The block takes no exception and has no return from one (60_exceptions.md R270, R278): its one
signal to the outside is the interrupt request (`State.assertIrq`), and a transaction it has no step for is refused by
`whenRunning`, `whenPowerable`, `forVariant` and `forBoard`. -/

namespace Sys2Proof

open Machine

/-- The byte at index `k`: the listed cell, or what an unlisted byte reads as (10_state.md R34). -/
def Memory.read : Memory → Nat → Byte
  | [], _ => Config.unlistedByte
  | (j, b) :: rest, k => if j = k then b else Memory.read rest k

/-- The cell for byte `v` at index `k` in front of `rest`: no cell when `v` is what an unlisted byte reads as. -/
def Memory.consCell (k : Nat) (v : Byte) (rest : Memory) : Memory :=
  if v = Config.unlistedByte then rest else (k, v) :: rest

/-- Write byte `v` at index `k`, keeping the canonical form. -/
def Memory.write : Memory → Nat → Byte → Memory
  | [], k, v => Memory.consCell k v []
  | (j, b) :: rest, k, v =>
    if k < j then Memory.consCell k v ((j, b) :: rest)
    else if k = j then Memory.consCell k v rest
    else (j, b) :: Memory.write rest k v

/-- The cells of the bytes `bs` placed from index `k` on. -/
def Memory.ofListFrom : Nat → List Byte → Memory
  | _, [] => []
  | k, b :: rest => Memory.consCell k b (Memory.ofListFrom (k + 1) rest)

/-- Byte `k` of a byte string (44_persistence.md R231). -/
def Bytes.get (b : Bytes) (k : Nat) : Byte := b.cells.read k

/-- The byte string of the bytes `bs`, in index order (44_persistence.md R231). -/
def Bytes.ofList (bs : List Byte) : Bytes := ⟨bs.length, Memory.ofListFrom 0 bs⟩

namespace Machine

/-- The name of a register (10_state.md R21). -/
inductive RegName where
  | r0 | r1 | r2 | r3 | r4 | r5 | r6 | r7
deriving DecidableEq, Repr

/-- `reg[i]` (00_scope.md R11). -/
def RegFile.get (f : RegFile) : RegName → Byte
  | .r0 => f.r0
  | .r1 => f.r1
  | .r2 => f.r2
  | .r3 => f.r3
  | .r4 => f.r4
  | .r5 => f.r5
  | .r6 => f.r6
  | .r7 => f.r7

/-- `reg[i] <- v`: any byte is held, with no legalisation (10_state.md R21). -/
def RegFile.set (f : RegFile) (v : Byte) : RegName → RegFile
  | .r0 => { f with r0 := v }
  | .r1 => { f with r1 := v }
  | .r2 => { f with r2 := v }
  | .r3 => { f with r3 := v }
  | .r4 => { f with r4 := v }
  | .r5 => { f with r5 := v }
  | .r6 => { f with r6 := v }
  | .r7 => { f with r7 := v }

/-- The field `REGS`: byte `i` is `reg[i]` (44_persistence.md R231). -/
def RegFile.toBytes (f : RegFile) : Bytes :=
  Bytes.ofList [f.r0, f.r1, f.r2, f.r3, f.r4, f.r5, f.r6, f.r7]

/-- The register file of a field `REGS`: `reg[i]` is byte `i` (44_persistence.md R231). -/
def RegFile.ofBytes (b : Bytes) : RegFile :=
  ⟨b.get 0, b.get 1, b.get 2, b.get 3, b.get 4, b.get 5, b.get 6, b.get 7⟩

/-- `reg[i] <- v` on the state. -/
def State.setReg (s : State) (i : RegName) (v : Byte) : State := { s with reg := s.reg.set v i }

/-- The whole register file written at once, by a power-on. -/
def State.setRegs (s : State) (f : RegFile) : State := { s with reg := f }

/-- Both latch bytes written (10_state.md R28, R29). -/
def State.setLatch (s : State) (lastStrobe trigger : Byte) : State :=
  { s with lastStrobe := lastStrobe, trigger := trigger }

/-- `push` of a whole window assignment: all four outputs at once (41_bank_sync.md R160), with the 8 KiB CHR bank 0, which
is 4 KiB banks 0 and 1 (10_state.md R32), and the work RAM mapped (R163). -/
def State.pushWindows (s : State) (prg : BitVec 12) : State :=
  { s with prgWin := some prg, chrLo := some 0, chrHi := some 1, wramWin := true }

/-- The PRG window alone forced to bank `prg` (40_write_decoder.md R128). -/
def State.forcePrg (s : State) (prg : BitVec 12) : State := { s with prgWin := some prg }

/-- Both CHR half-windows forced to 4 KiB bank `bank` (42_scanline_hook.md R191, R192). -/
def State.overrideChr (s : State) (bank : Byte) : State := { s with chrLo := some bank, chrHi := some bank }

/-- No window mapped (45_lifecycle.md R250, R256). -/
def State.clearWindows (s : State) : State :=
  { s with prgWin := none, chrLo := none, chrHi := none, wramWin := false }

/-- The whole work RAM written at once: a battery load, or its release. -/
def State.setWram (s : State) (m : Memory) : State := { s with wram := m }

/-- `phase <- p` (10_state.md R35). -/
def State.setPhase (s : State) (p : Phase) : State := { s with phase := p }

/-- The transaction hands `o` to its collaborator (00_scope.md R8). -/
def State.emit (s : State) (o : Output) : State := { s with out := o }

/-- The transaction hands nothing to a collaborator. -/
def State.quiet (s : State) : State := s.emit .none

/-- `drive(v)` (00_scope.md R11). -/
def State.drive (s : State) (v : Byte) : State := s.emit (.drive v)

/-- `undriven`: the block returns nothing, and the byte on the bus is the environment's next draw
(00_scope.md R11; log 4). -/
def State.undriven (s : State) : State :=
  { s with out := .undriven (Config.busDraw s.draws), draws := s.draws + 1 }

/-- `irq_assert()`: one request to the external interrupt controller; nothing of the block changes
(42_scanline_hook.md R197, 60_exceptions.md R274, R275). -/
def State.assertIrq (s : State) : State := s.emit .irqAssert

/-- The block's work RAM serves 0x6000-0x7FFF exactly when `wramWin` (20_memory.md R62): a write of byte `v` at offset
`k` lands when it is mapped, and is not served otherwise (log 12). -/
def State.storeWram (s : State) (k : Nat) (v : Byte) : State :=
  if s.wramWin then s.setWram (s.wram.write k v) else s

/-- A read of the work RAM at offset `k`, served exactly when `wramWin` (20_memory.md R62; log 12). -/
def State.loadWram (s : State) (k : Nat) : State :=
  if s.wramWin then s.drive (s.wram.read k) else s.undriven

/-- The precondition `phase = Running` (40_write_decoder.md R120; 10_state.md R36). -/
def whenRunning (s : State) (k : Result) : Result :=
  match s.phase with
  | .created => .refused .notPowered
  | .running => k
  | .tornDown => .refused .tornDown

/-- The precondition of a power-on: `phase` is `Created` or `Running` (45_lifecycle.md R251). -/
def whenPowerable (s : State) (k : Result) : Result :=
  match s.phase with
  | .created => k
  | .running => k
  | .tornDown => .refused .tornDown

/-- The row belongs to variant `v` alone (10_state.md R20; log 9). -/
def forVariant (v : Variant) (s : State) (k : Result) : Result :=
  if s.variant = v then k else .refused .otherVariant

/-- The row belongs to the variants 164, 163 and UNLFS304 (log 9). -/
def forBoard (s : State) (k : Result) : Result :=
  if s.variant = .vTemplate then .refused .otherVariant else k

/-- The instance has a battery-backed work RAM (44_persistence.md R237, R238). -/
def withBattery (s : State) (k : Result) : Result :=
  if s.battery = true ∧ s.variant ≠ .vTemplate then k else .refused .noBattery

/-- A transaction of variant `v` in phase `Running` that ends in `t`. -/
def runningIn (v : Variant) (s t : State) : Result :=
  whenRunning s (forVariant v s (.next t))

/-- A transaction of the variants 164, 163 and UNLFS304 in phase `Running` that ends in `t`. -/
def runningBoard (s t : State) : Result :=
  whenRunning s (forBoard s (.next t))

/-- The instance CREATE makes: every register, both latches and every work-RAM byte 0x00, no window mapped, phase
`Created` (45_lifecycle.md R250; log 11). The parameters and the model's own queue and draw count are not the
instance's. -/
def State.newInstance (s : State) (v : Variant) (battery : Bool) : State :=
  { s with
    variant := v, battery := battery, reg := RegFile.zero, lastStrobe := 0x00, trigger := 0x00
    prgWin := none, chrLo := none, chrHi := none, wramWin := false, wram := [], phase := .created }

end Machine

end Sys2Proof
end

