-- ==== Sys2Proof/Machine/Flags.lean ====
section
/-! DEFINITION. The flag computations: the strobe edge detector of the protection latch, the reading of `trigger`, and
the split-CHR mode flag. `lastStrobe` and `trigger` are the block's only flags (10_state.md R38). -/

namespace Sys2Proof.Machine

/-- A falling edge: a write of 0x00 while `lastStrobe ≠ 0x00` (00_scope.md R14, 43_protection_latch.md R211). -/
def fallingEdge (lastStrobe d : Byte) : Bool := decide (lastStrobe ≠ 0x00) && decide (d = 0x00)

/-- `trigger` after a strobe write: bit 0 inverted on a falling edge (43_protection_latch.md R211). -/
def strobeTrigger (lastStrobe trigger d : Byte) : Byte :=
  if fallingEdge lastStrobe d then trigger ^^^ 0x01 else trigger

/-- `trigger` reads as set when it is not 0x00 (10_state.md R29). -/
def triggerSet (trigger : Byte) : Bool := decide (trigger ≠ 0x00)

/-- Split-CHR mode: `reg[1][7] = 1` (10_state.md R24). -/
def splitChr (f : RegFile) : Bool := f.r1.getLsbD 7

end Sys2Proof.Machine
end

