-- ==== Sys2Proof/Machine/Latch.lean ====
section
/-! DEFINITION. The meanings of variant 163's protection latch and read ports (43_protection_latch.md R211, R214-R217). -/

namespace Sys2Proof.Machine

/-- W163_STROBE: the edge test, then `lastStrobe <- D`; no register write and no Sync (43_protection_latch.md R211). -/
def execW163Strobe (d : Byte) (s : State) : Result :=
  runningIn .v163 s (s.quiet.setLatch d (strobeTrigger s.lastStrobe s.trigger d))

/-- The byte of the trigger port (43_protection_latch.md R215). -/
def triggerPort (s : State) : Byte :=
  if triggerSet s.trigger then s.reg.r2 ||| s.reg.r1 else 0x00

/-- The byte of the composite port, `reg[2] | reg[0] | reg[1] | (reg[3] ^ 0xFF)` (43_protection_latch.md R216). -/
def statusPort (f : RegFile) : Byte :=
  f.r2 ||| f.r0 ||| f.r1 ||| (f.r3 ^^^ 0xFF)

/-- R163_TRIG: read of the trigger port (43_protection_latch.md R215). -/
def execR163Trig (_a : Addr) (s : State) : Result :=
  runningIn .v163 s (s.drive (triggerPort s))

/-- R163_STATUS: read of the composite port (43_protection_latch.md R216). -/
def execR163Status (_a : Addr) (s : State) : Result :=
  runningIn .v163 s (s.drive (statusPort s.reg))

/-- R163_DEFAULT: read of any other configuration address, `READ_DEFAULT` (43_protection_latch.md R217). -/
def execR163Default (_a : Addr) (s : State) : Result :=
  runningIn .v163 s (s.drive s.readDefault)

end Sys2Proof.Machine
end

