-- ==== Sys2Proof/Machine/Sync.lean ====
section
/-! DEFINITION. The bank synchronizer: the formulas of 41_bank_sync.md as literal bit formulas, and the Sync of each
variant. -/

namespace Sys2Proof.Machine

/-- SYNC_A, formula A: `(reg[0] << 4) | (reg[1] & 0x0F)`, 12 bits (41_bank_sync.md R161). -/
def formulaA (f : RegFile) : BitVec 12 :=
  (f.r0.setWidth 12 <<< 4) ||| (f.r1 &&& 0x0F).setWidth 12

/-- FS_CASE_5_7 (41_bank_sync.md R166). -/
def fsCase57 (f : RegFile) : Byte :=
  (f.r0 &&& 0x0F) ||| ((f.r2 &&& 0x0F) <<< 4)

/-- FS_CASE_0_2 of the default formulas (41_bank_sync.md R167). -/
def fsCase02 (f : RegFile) : Byte :=
  (f.r0 &&& 0x0C) ||| (f.r1 &&& 0x02) ||| ((f.r2 &&& 0x0F) <<< 4)

/-- FS_CASE_1_3 of the default formulas (41_bank_sync.md R168). -/
def fsCase13 (f : RegFile) : Byte :=
  (f.r0 &&& 0x0C) ||| ((f.r2 &&& 0x0F) <<< 4)

/-- FS_CASE_4_6 of the default formulas (41_bank_sync.md R169). -/
def fsCase46 (f : RegFile) : Byte :=
  (f.r0 &&& 0x0E) ||| ((f.r1 >>> 1) &&& 0x01) ||| ((f.r2 &&& 0x0F) <<< 4)

/-- The index of case 0/2 under the instance's formulas (41_bank_sync.md R167; 00_scope.md R7). -/
def fsIndex02 (p : Fs304Formulas) (f : RegFile) : Byte :=
  match p with
  | .standard => fsCase02 f
  | .other n => Config.fs304Case02 n f.r0 f.r1 f.r2

/-- The index of case 1/3 under the instance's formulas (41_bank_sync.md R168; 00_scope.md R7). -/
def fsIndex13 (p : Fs304Formulas) (f : RegFile) : Byte :=
  match p with
  | .standard => fsCase13 f
  | .other n => Config.fs304Case13 n f.r0 f.r1 f.r2

/-- The index of case 4/6 under the instance's formulas (41_bank_sync.md R169; 00_scope.md R7). -/
def fsIndex46 (p : Fs304Formulas) (f : RegFile) : Byte :=
  match p with
  | .standard => fsCase46 f
  | .other n => Config.fs304Case46 n f.r0 f.r1 f.r2

/-- The case of formula C: `{reg[3][2], reg[3][0]}`, with `reg[3][1]` ignored (41_bank_sync.md R164, R165). The formula of
case 5/7 is the source's and no parameter (00_scope.md R7). -/
def fsIndex (p : Fs304Formulas) (f : RegFile) : Byte :=
  match f.r3.getLsbD 2, f.r3.getLsbD 0 with
  | false, false => fsIndex02 p f
  | false, true => fsIndex13 p f
  | true, false => fsIndex46 p f
  | true, true => fsCase57 f

/-- Formula C: the index of the selected case, zero-extended to 12 bits (41_bank_sync.md R164). -/
def formulaC (p : Fs304Formulas) (f : RegFile) : BitVec 12 := (fsIndex p f).setWidth 12

/-- SYNC_AB: the Sync of variants 164 and 163 (41_bank_sync.md R163). -/
def State.syncAB (s : State) : State := s.pushWindows (formulaA s.reg)

/-- SYNC_C: the Sync of variant UNLFS304 (41_bank_sync.md R164). -/
def State.syncC (s : State) : State := s.pushWindows (formulaC s.fs304Formulas s.reg)

/-- SYNC_T: the template's Sync is empty (41_bank_sync.md R170). -/
def State.syncT (s : State) : State := s

/-- The Sync of the instance's variant (41_bank_sync.md R162, R164, R170). -/
def State.sync (s : State) : State :=
  match s.variant with
  | .v164 => s.syncAB
  | .v163 => s.syncAB
  | .vFS304 => s.syncC
  | .vTemplate => s.syncT

end Sys2Proof.Machine
end

