-- ==== Sys2Proof/Machine/Lifecycle.lean ====
section
/-! DEFINITION. The meanings of the lifecycle events (45_lifecycle.md R250-R258). -/

namespace Sys2Proof.Machine

/-- The registers variant 164's power-on leaves: all zero, then `reg[1] = 0xFF` (45_lifecycle.md R251). -/
def powerRegs164 : RegFile := RegFile.zero.set 0xFF .r1

/-- The registers variant UNLFS304's power-on leaves: `reg[0..3]` set, `reg[4..7]` kept (45_lifecycle.md R253). -/
def powerRegsFs304 (f : RegFile) : RegFile :=
  { f with r0 := 0x03, r1 := 0x0B, r2 := 0x00, r3 := 0x07 }

/-- What variant 164's power-on installs (45_lifecycle.md R251, R257, R258). -/
def handlers164 : Handlers where
  cfgWrite := true
  cfgRead := false
  wramAccess := true
  prgRead := true
  scanlineHook := false
  irqHook := false
  cheatWram := true

/-- What variant 163's power-on installs: the read handler and the scanline hook too (45_lifecycle.md R252, R257). -/
def handlers163 : Handlers where
  cfgWrite := true
  cfgRead := true
  wramAccess := true
  prgRead := true
  scanlineHook := true
  irqHook := false
  cheatWram := true

/-- What variant UNLFS304's power-on installs (45_lifecycle.md R253, R257, R258). -/
def handlersFs304 : Handlers where
  cfgWrite := true
  cfgRead := false
  wramAccess := true
  prgRead := true
  scanlineHook := false
  irqHook := false
  cheatWram := true

/-- What the template's power-on installs: the empty write handler and the interrupt hook (45_lifecycle.md R254). -/
def handlersTemplate : Handlers where
  cfgWrite := true
  cfgRead := false
  wramAccess := false
  prgRead := false
  scanlineHook := false
  irqHook := true
  cheatWram := false

/-- CREATE: a new instance, in any phase (45_lifecycle.md R250; log 11). -/
def execCreate (_upper : BitVec 13) (battery : Bool) (v : Variant) (s : State) : Result :=
  .next (s.quiet.newInstance v battery)

/-- POWER_164 (45_lifecycle.md R251). -/
def execPower164 (_n : Operand) (s : State) : Result :=
  whenPowerable s (forVariant .v164 s
    (.next (((s.emit (.installed handlers164)).setRegs powerRegs164).setPhase .running).syncAB))

/-- POWER_163: `lastStrobe` is set, `trigger` is kept (45_lifecycle.md R252). -/
def execPower163 (_n : Operand) (s : State) : Result :=
  whenPowerable s (forVariant .v163 s
    (.next ((((s.emit (.installed handlers163)).setRegs RegFile.zero).setLatch s.lastStrobePower163 s.trigger).setPhase
      .running).syncAB))

/-- POWER_FS304 (45_lifecycle.md R253). -/
def execPowerFs304 (_n : Operand) (s : State) : Result :=
  whenPowerable s (forVariant .vFS304 s
    (.next (((s.emit (.installed handlersFs304)).setRegs (powerRegsFs304 s.reg)).setPhase .running).syncC))

/-- POWER_T: no register, latch or window changes (45_lifecycle.md R254). -/
def execPowerT (_n : Operand) (s : State) : Result :=
  whenPowerable s (forVariant .vTemplate s
    (.next ((s.emit (.installed handlersTemplate)).setPhase .running).syncT))

/-- RESET: no state changes (45_lifecycle.md R255). -/
def execReset (_n : Operand) (s : State) : Result :=
  whenRunning s (.next s.quiet)

/-- TEARDOWN: the work RAM released, no window mapped (45_lifecycle.md R256; log 14, log 21). -/
def execTeardown (_n : Operand) (s : State) : Result :=
  whenPowerable s (.next (((s.quiet.setWram []).clearWindows).setPhase .tornDown))

end Sys2Proof.Machine
end

