-- ==== Sys2Proof/Machine/Persistence.lean ====
section
/-! DEFINITION. The meanings of the persistence events: save, restore and the battery mirror
(44_persistence.md R230-R239). -/

namespace Sys2Proof.Machine

/-- The fields variants 164, 163 and UNLFS304 save (44_persistence.md R230, R232). -/
def State.savedFields (s : State) : List SavedField :=
  [⟨.stb, Bytes.ofList [s.lastStrobe]⟩, ⟨.trg, Bytes.ofList [s.trigger]⟩, ⟨.regs, s.reg.toBytes⟩,
    ⟨.wram, ⟨Config.wramSize, s.wram⟩⟩]

/-- `F[t]`: the byte string of tag `t`, if `F` has it (44_persistence.md R234). -/
def fieldOf (t : Tag) : List SavedField → Option Bytes
  | [] => none
  | f :: rest => if f.tag = t then some f.bytes else fieldOf t rest

/-- The size of a registered field (44_persistence.md R230); a tag that is not registered has none. -/
def tagSize : Tag → Option Nat
  | .stb => some 1
  | .trg => some 1
  | .regs => some 8
  | .wram => some Config.wramSize
  | .other _ => none

/-- A field present in `F` has its size; an absent one is fine (44_persistence.md R234). -/
def sizeFits (t : Tag) (fs : List SavedField) : Bool :=
  match fieldOf t fs with
  | none => true
  | some b => decide (tagSize t = some b.size)

/-- Every registered field present in `F` has its size (44_persistence.md R234). -/
def restorable (fs : List SavedField) : Bool :=
  sizeFits .stb fs && sizeFits .trg fs && sizeFits .regs fs && sizeFits .wram fs

/-- `field(t) <- F[t]` for each registered tag in `F`; an absent tag keeps its field, another tag is ignored
(44_persistence.md R231, R234). -/
def State.loadFields (s : State) (fs : List SavedField) : State :=
  { s with
    lastStrobe := (match fieldOf .stb fs with | none => s.lastStrobe | some b => b.get 0)
    trigger := (match fieldOf .trg fs with | none => s.trigger | some b => b.get 0)
    reg := (match fieldOf .regs fs with | none => s.reg | some b => RegFile.ofBytes b)
    wram := (match fieldOf .wram fs with | none => s.wram | some b => b.cells) }

/-- SAVE (44_persistence.md R232). -/
def execSave (_n : Operand) (s : State) : Result :=
  runningBoard s (s.emit (.saved s.savedFields))

/-- SAVE_T: the empty set of fields (44_persistence.md R233). -/
def execSaveT (_n : Operand) (s : State) : Result :=
  runningIn .vTemplate s (s.emit (.saved []))

/-- RESTORE: nothing is written when a field's length is wrong; else the fields, then Sync (44_persistence.md R234). -/
def execRestore (_n : Operand) (fs : List SavedField) (s : State) : Result :=
  whenRunning s (forBoard s
    (if restorable fs then .next (s.quiet.loadFields fs).sync else .refused .badStateField))

/-- RESTORE_T: every field ignored, the empty Sync (44_persistence.md R235). -/
def execRestoreT (_n : Operand) (_fs : List SavedField) (s : State) : Result :=
  runningIn .vTemplate s s.quiet.syncT

/-- BATLOAD: the image into the work RAM, before the first power-on only (44_persistence.md R237; log 8). -/
def execBatload (_n : Operand) (image : Bytes) (s : State) : Result :=
  match s.phase with
  | .created => withBattery s (.next (s.quiet.setWram image.cells))
  | .running => .refused .notCreated
  | .tornDown => .refused .tornDown

/-- BATSAVE: the work RAM as an image, in phase `Created` or `Running` (44_persistence.md R238). -/
def execBatsave (_n : Operand) (s : State) : Result :=
  whenPowerable s (withBattery s (.next (s.emit (.image ⟨Config.wramSize, s.wram⟩))))

end Sys2Proof.Machine
end

