-- ==== Sys2Proof/Machine/Scanline.lean ====
section
/-! DEFINITION. The meanings of the scanline events: variant 163's split-CHR override, the variants without a hook, and
the template's interrupt hook (42_scanline_hook.md R191-R197). -/

namespace Sys2Proof.Machine

/-- The split-CHR override: both halves to 4 KiB bank `bank` in split-CHR mode, nothing otherwise
(42_scanline_hook.md R191, R192). -/
def State.scanlineOverride (s : State) (bank : Byte) : State :=
  if splitChr s.reg then s.overrideChr bank else s

/-- EV163_SL239: CHR bank 0 into both halves in split-CHR mode (42_scanline_hook.md R191). -/
def execEv163Sl239 (s : State) : Result :=
  runningIn .v163 s (s.quiet.scanlineOverride 0)

/-- EV163_SL127: CHR bank 1 into both halves in split-CHR mode (42_scanline_hook.md R192). -/
def execEv163Sl127 (s : State) : Result :=
  runningIn .v163 s (s.quiet.scanlineOverride 1)

/-- EV163_SLOTHER: no effect (42_scanline_hook.md R193). -/
def execEv163SlOther (_n : Operand) (s : State) : Result :=
  runningIn .v163 s s.quiet

/-- EV164_SL: no effect, no hook (42_scanline_hook.md R195). -/
def execEv164Sl (_n : Operand) (s : State) : Result :=
  runningIn .v164 s s.quiet

/-- EVFS_SL: no effect, no hook (42_scanline_hook.md R196). -/
def execEvfsSl (_n : Operand) (s : State) : Result :=
  runningIn .vFS304 s s.quiet

/-- EVT_SL: the interrupt hook, `irq_assert()` (42_scanline_hook.md R197). -/
def execEvtSl (_n : Operand) (s : State) : Result :=
  runningIn .vTemplate s s.assertIrq

end Sys2Proof.Machine
end

