-- ==== Sys2Proof/Machine/Template.lean ====
section
/-! DEFINITION. The meanings of variant Template's bus transactions (40_write_decoder.md R140, R141, R150, R151). -/

namespace Sys2Proof.Machine

/-- WT_NOP: the empty write handler (40_write_decoder.md R140). -/
def execWtNop (_a : Addr) (_d : Byte) (s : State) : Result :=
  runningIn .vTemplate s s.quiet

/-- RT_CFG: `undriven` (40_write_decoder.md R141). -/
def execRtCfg (_a : Addr) (s : State) : Result :=
  runningIn .vTemplate s s.undriven

/-- WT_WRAM_W: no effect; the template has no work RAM (40_write_decoder.md R150). -/
def execWtWramW (_a : Addr) (_d : Byte) (s : State) : Result :=
  runningIn .vTemplate s s.quiet

/-- WT_WRAM_R: `undriven` (40_write_decoder.md R151). -/
def execWtWramR (_a : Addr) (s : State) : Result :=
  runningIn .vTemplate s s.undriven

end Sys2Proof.Machine
end

