-- ==== Sys2Proof/Machine/Operands.lean ====
section
/-! DEFINITION. The operand forms: the offsets a bus or PPU address selects, and the storage address a window reaches
(30_encoding.md R91, R93; 20_memory.md R62-R64, R74). -/

namespace Sys2Proof.Machine

/-- The work-RAM offset `A[12:0]` (20_memory.md R62). -/
def wramOffset (a : Addr) : Nat := (a.extractLsb' 0 13).toNat

/-- The PRG offset `A[14:0]` (20_memory.md R63). -/
def prgOffset (a : Addr) : Nat := (a.extractLsb' 0 15).toNat

/-- The CHR half-window `P[12]`: false is the lower half (20_memory.md R64). -/
def chrUpper (p : Addr) : Bool := decide (p.extractLsb' 12 1 = 1#1)

/-- The CHR offset `P[11:0]` (20_memory.md R64). -/
def chrOffset (p : Addr) : Nat := (p.extractLsb' 0 12).toNat

/-- Where byte `A[14:0]` of the PRG 32 KiB bank `idx & mask` stands in `PRGROM` (40_write_decoder.md R147). -/
def prgRomAddr (mask idx : BitVec 12) (a : Addr) : Nat := (idx &&& mask).toNat * 0x8000 + prgOffset a

/-- Where byte `P[11:0]` of the CHR 4 KiB bank `idx & mask` stands in `CHRMEM` (40_write_decoder.md R149). -/
def chrMemAddr (mask idx : Byte) (p : Addr) : Nat := (idx &&& mask).toNat * 0x1000 + chrOffset p

/-- The CHR bank a pattern fetch at `P` goes through (40_write_decoder.md R149). -/
def State.chrBank (s : State) (p : Addr) : Option Byte := if chrUpper p then s.chrHi else s.chrLo

end Sys2Proof.Machine
end

