-- ==== Sys2Proof/Machine/Window.lean ====
section
/-! DEFINITION. The meanings of the accesses that pass through the windows (40_write_decoder.md R145-R149). -/

namespace Sys2Proof.Machine

/-- WRAM_W: `wram[A[12:0]] <- D` (40_write_decoder.md R145). -/
def execWramW (a : Addr) (d : Byte) (s : State) : Result :=
  runningBoard s (s.quiet.storeWram (wramOffset a) d)

/-- WRAM_R: `drive(wram[A[12:0]])` (40_write_decoder.md R146). -/
def execWramR (a : Addr) (s : State) : Result :=
  runningBoard s (s.loadWram (wramOffset a))

/-- PRG_R: the byte of the bank `prgWin` selects, or `undriven` when none is mapped (40_write_decoder.md R147). -/
def execPrgR (a : Addr) (s : State) : Result :=
  whenRunning s
    (.next
      (match s.prgWin with
        | none => s.undriven
        | some idx => s.drive (Config.prgRom (prgRomAddr Config.prg32Mask idx a))))

/-- PRG_W: no effect on the block (40_write_decoder.md R148). -/
def execPrgW (_a : Addr) (_d : Byte) (s : State) : Result :=
  whenRunning s (.next s.quiet)

/-- CHR_R: the byte of the bank `chrLo` or `chrHi` selects, or `undriven` when none is mapped
(40_write_decoder.md R149). -/
def execChrR (p : Addr) (s : State) : Result :=
  whenRunning s
    (.next
      (match s.chrBank p with
        | none => s.undriven
        | some idx => s.drive (Config.chrMem (chrMemAddr Config.chr4Mask idx p))))

end Sys2Proof.Machine
end

