-- ==== Sys2Proof/Machine/Write163.lean ====
section
/-! DEFINITION. The meanings of variant 163's register writes and PRG quirk (40_write_decoder.md R126-R131). -/

namespace Sys2Proof.Machine

/-- W163_FORCEPRG: `prgWin <- 3`, no register write and no Sync (40_write_decoder.md R128). -/
def execW163ForcePrg (s : State) : Result :=
  runningIn .v163 s (s.quiet.forcePrg 3)

/-- W163_REG1: `reg[1] <- D; Sync()` (40_write_decoder.md R127). -/
def execW163Reg1 (_a : Addr) (d : Byte) (s : State) : Result :=
  runningIn .v163 s (s.quiet.setReg .r1 d).syncAB

/-- W163_REG3: `reg[3] <- D; Sync()` (40_write_decoder.md R129). -/
def execW163Reg3 (_a : Addr) (d : Byte) (s : State) : Result :=
  runningIn .v163 s (s.quiet.setReg .r3 d).syncAB

/-- W163_REG0: `reg[0] <- D; Sync()` (40_write_decoder.md R130). -/
def execW163Reg0 (_a : Addr) (d : Byte) (s : State) : Result :=
  runningIn .v163 s (s.quiet.setReg .r0 d).syncAB

/-- W163_REG2: `reg[2] <- D`, no Sync (40_write_decoder.md R131). -/
def execW163Reg2 (_a : Addr) (d : Byte) (s : State) : Result :=
  runningIn .v163 s (s.quiet.setReg .r2 d)

end Sys2Proof.Machine
end

