-- ==== Sys2Proof/Machine/Write164.lean ====
section
/-! DEFINITION. The meanings of variant 164's configuration transactions (40_write_decoder.md R121-R124, R133). -/

namespace Sys2Proof.Machine

/-- W164_REG1: `reg[1] <- D; Sync()` (40_write_decoder.md R121). -/
def execW164Reg1 (_a : Addr) (d : Byte) (s : State) : Result :=
  runningIn .v164 s (s.quiet.setReg .r1 d).syncAB

/-- W164_REG0: `reg[0] <- D; Sync()` (40_write_decoder.md R122). -/
def execW164Reg0 (_a : Addr) (d : Byte) (s : State) : Result :=
  runningIn .v164 s (s.quiet.setReg .r0 d).syncAB

/-- W164_REG3: `reg[3] <- D; Sync()` (40_write_decoder.md R123). -/
def execW164Reg3 (_a : Addr) (d : Byte) (s : State) : Result :=
  runningIn .v164 s (s.quiet.setReg .r3 d).syncAB

/-- W164_REG2: `reg[2] <- D`, no Sync (40_write_decoder.md R124). -/
def execW164Reg2 (_a : Addr) (d : Byte) (s : State) : Result :=
  runningIn .v164 s (s.quiet.setReg .r2 d)

/-- R164_CFG: `undriven` (40_write_decoder.md R133). -/
def execR164Cfg (_a : Addr) (s : State) : Result :=
  runningIn .v164 s s.undriven

end Sys2Proof.Machine
end

