-- ==== Sys2Proof/Machine/WriteFs304.lean ====
section
/-! DEFINITION. The meanings of variant UNLFS304's configuration transactions (40_write_decoder.md R134-R139). -/

namespace Sys2Proof.Machine

/-- WFS_REG0: `reg[0] <- D; Sync()` (40_write_decoder.md R135). -/
def execWfsReg0 (_a : Addr) (d : Byte) (s : State) : Result :=
  runningIn .vFS304 s (s.quiet.setReg .r0 d).syncC

/-- WFS_REG1: `reg[1] <- D; Sync()` (40_write_decoder.md R136). -/
def execWfsReg1 (_a : Addr) (d : Byte) (s : State) : Result :=
  runningIn .vFS304 s (s.quiet.setReg .r1 d).syncC

/-- WFS_REG2: `reg[2] <- D; Sync()` (40_write_decoder.md R137). -/
def execWfsReg2 (_a : Addr) (d : Byte) (s : State) : Result :=
  runningIn .vFS304 s (s.quiet.setReg .r2 d).syncC

/-- WFS_REG3: `reg[3] <- D; Sync()` (40_write_decoder.md R138). -/
def execWfsReg3 (_a : Addr) (d : Byte) (s : State) : Result :=
  runningIn .vFS304 s (s.quiet.setReg .r3 d).syncC

/-- RFS_CFG: `undriven` (40_write_decoder.md R139). -/
def execRfsCfg (_a : Addr) (s : State) : Result :=
  runningIn .vFS304 s s.undriven

end Sys2Proof.Machine
end

