-- ==== Sys2Proof/Machine/Dispatch.lean ====
section
/-! DEFINITION. One arm per instruction: its meaning. -/

namespace Sys2Proof.Machine

def exec (i : Instr) (s : State) : Host.Outcome State Fault Refusal :=
  match i with
  | .w164Reg1 a d => Sys2Proof.Machine.execW164Reg1 a d s
  | .w164Reg0 a d => Sys2Proof.Machine.execW164Reg0 a d s
  | .w164Reg3 a d => Sys2Proof.Machine.execW164Reg3 a d s
  | .w164Reg2 a d => Sys2Proof.Machine.execW164Reg2 a d s
  | .r164Cfg a => Sys2Proof.Machine.execR164Cfg a s
  | .w163Strobe d => Sys2Proof.Machine.execW163Strobe d s
  | .w163ForcePrg => Sys2Proof.Machine.execW163ForcePrg s
  | .w163Reg1 a d => Sys2Proof.Machine.execW163Reg1 a d s
  | .w163Reg3 a d => Sys2Proof.Machine.execW163Reg3 a d s
  | .w163Reg0 a d => Sys2Proof.Machine.execW163Reg0 a d s
  | .w163Reg2 a d => Sys2Proof.Machine.execW163Reg2 a d s
  | .r163Trig a => Sys2Proof.Machine.execR163Trig a s
  | .r163Status a => Sys2Proof.Machine.execR163Status a s
  | .r163Default a => Sys2Proof.Machine.execR163Default a s
  | .wfsReg0 a d => Sys2Proof.Machine.execWfsReg0 a d s
  | .wfsReg1 a d => Sys2Proof.Machine.execWfsReg1 a d s
  | .wfsReg2 a d => Sys2Proof.Machine.execWfsReg2 a d s
  | .wfsReg3 a d => Sys2Proof.Machine.execWfsReg3 a d s
  | .rfsCfg a => Sys2Proof.Machine.execRfsCfg a s
  | .wtNop a d => Sys2Proof.Machine.execWtNop a d s
  | .rtCfg a => Sys2Proof.Machine.execRtCfg a s
  | .wtWramW a d => Sys2Proof.Machine.execWtWramW a d s
  | .wtWramR a => Sys2Proof.Machine.execWtWramR a s
  | .wramW a d => Sys2Proof.Machine.execWramW a d s
  | .wramR a => Sys2Proof.Machine.execWramR a s
  | .prgR a => Sys2Proof.Machine.execPrgR a s
  | .prgW a d => Sys2Proof.Machine.execPrgW a d s
  | .chrR p => Sys2Proof.Machine.execChrR p s
  | .ev163Sl239 => Sys2Proof.Machine.execEv163Sl239 s
  | .ev163Sl127 => Sys2Proof.Machine.execEv163Sl127 s
  | .ev163SlOther n => Sys2Proof.Machine.execEv163SlOther n s
  | .ev164Sl n => Sys2Proof.Machine.execEv164Sl n s
  | .evfsSl n => Sys2Proof.Machine.execEvfsSl n s
  | .evtSl n => Sys2Proof.Machine.execEvtSl n s
  | .power164 n => Sys2Proof.Machine.execPower164 n s
  | .power163 n => Sys2Proof.Machine.execPower163 n s
  | .powerFs304 n => Sys2Proof.Machine.execPowerFs304 n s
  | .powerT n => Sys2Proof.Machine.execPowerT n s
  | .reset n => Sys2Proof.Machine.execReset n s
  | .save n => Sys2Proof.Machine.execSave n s
  | .saveT n => Sys2Proof.Machine.execSaveT n s
  | .restore n fields => Sys2Proof.Machine.execRestore n fields s
  | .restoreT n fields => Sys2Proof.Machine.execRestoreT n fields s
  | .teardown n => Sys2Proof.Machine.execTeardown n s
  | .create upper battery v => Sys2Proof.Machine.execCreate upper battery v s
  | .batload n image => Sys2Proof.Machine.execBatload n image s
  | .batsave n => Sys2Proof.Machine.execBatsave n s

end Sys2Proof.Machine
end

