-- ==== Sys2Proof/Machine/Step.lean ====
section
/-! DEFINITION. One step of the machine: the next delivered transaction is decoded under the instance's variant and run. -/

namespace Sys2Proof.Machine

/-- The refusal of a delivery that is no transaction of the block (10_state.md R36; log 10). -/
def refusalOf : DecodeError → Refusal
  | .notDelivered => .notDelivered
  | .badPatternAddress => .badPatternAddress
  | .badEvent => .badEvent
  | .badPayload => .badPayload
  | .badFieldSet => .badFieldSet
  | .badImage => .badImage

/-- One step. Nothing in the block moves on its own (10_state.md R37): with nothing pending the state stays as it is
(log 2). Else the next transaction leaves the queue, is decoded under the instance's variant, and runs as one atomic
transition (20_memory.md R70, R71). -/
def step (s : State) : Host.Outcome State Fault Refusal :=
  match s.pending with
  | [] => .next s
  | dl :: rest =>
    match decode s.variant dl with
    | .ok i => exec i { s with pending := rest }
    | .error e => .refused (refusalOf e)

/-- `s` with the transaction of a table word placed as the next one the step takes (log 2, log 3). -/
def State.withFetchWord (s : State) (nbits w : Nat) : State :=
  match tableDelivery nbits w with
  | none => s
  | some dl => { s with pending := dl :: s.pending }

end Sys2Proof.Machine
end

