-- ==== Sys2Proof/Safety.lean ====
section
/-! DEFINITION. The terms claims use: when an instance is ready, what part an instruction plays, what stays the same
between two states, runs of several transactions, and the invariant of the machine. -/

namespace Sys2Proof.Machine

/-- An instance of variant `v` in phase `Running`. -/
def State.readyAs (s : State) (v : Variant) : Prop := s.variant = v ∧ s.phase = .running

/-- An instance of variant 164, 163 or UNLFS304 in phase `Running`. -/
def State.boardReady (s : State) : Prop := s.variant ≠ .vTemplate ∧ s.phase = .running

/-- Every registered field the set brings has its size (44_persistence.md R230, R234), said of the byte strings: 1, 1, 8
and 8192 bytes. -/
def fieldSizesRight (fs : List SavedField) : Prop :=
  (∀ b, fieldOf .stb fs = some b → b.size = 1) ∧ (∀ b, fieldOf .trg fs = some b → b.size = 1) ∧
    (∀ b, fieldOf .regs fs = some b → b.size = 8) ∧ (∀ b, fieldOf .wram fs = some b → b.size = 8192)

/-- The state after the register file became `f` and variant 164's or 163's Sync ran: the PRG index is
`{reg[0][7:0], reg[1][3:0]}`, the CHR windows hold banks 0 and 1, the work RAM is mapped, and nothing is handed out
(41_bank_sync.md R161, R163). -/
def State.syncedA (s : State) (f : RegFile) : State :=
  { s with
    reg := f, prgWin := some (f.r0 ++ f.r1.extractLsb' 0 4), chrLo := some 0, chrHi := some 1, wramWin := true, out := .none }

/-- Index bit 1 of the UNLFS304 mux tree, by case (41_bank_sync.md R173). -/
def tableBit1 (f : RegFile) : Bool :=
  match f.r3.getLsbD 2, f.r3.getLsbD 0 with
  | false, false => f.r1.getLsbD 1
  | false, true => false
  | true, false => f.r0.getLsbD 1
  | true, true => f.r0.getLsbD 1

/-- Index bit 0 of the UNLFS304 mux tree, by case (41_bank_sync.md R173). -/
def tableBit0 (f : RegFile) : Bool :=
  match f.r3.getLsbD 2, f.r3.getLsbD 0 with
  | false, false => false
  | false, true => false
  | true, false => f.r1.getLsbD 1
  | true, true => f.r0.getLsbD 0

/-- The UNLFS304 PRG index read off the bit table of 41_bank_sync.md R173, zero-extended to 12 bits: the index under the
default formulas. -/
def tableIndex (f : RegFile) : BitVec 12 :=
  0#4 ++ (f.r2.extractLsb' 0 4 ++ (f.r0.extractLsb' 2 2 ++ (BitVec.ofBool (tableBit1 f) ++ BitVec.ofBool (tableBit0 f))))

/-- The UNLFS304 PRG index for any value of `FS304_FORMULAS`: under the default formulas the bit table's; under another set
its byte for the case `{reg[3][2], reg[3][0]}`, with case 5/7 always `{reg[2][3:0], reg[0][3:0]}` (41_bank_sync.md R164-R166,
R173; 00_scope.md R7). -/
def indexC (p : Fs304Formulas) (f : RegFile) : BitVec 12 :=
  match p with
  | .standard => tableIndex f
  | .other n =>
    0#4 ++ (match f.r3.getLsbD 2, f.r3.getLsbD 0 with
      | false, false => Config.fs304Case02 n f.r0 f.r1 f.r2
      | false, true => Config.fs304Case13 n f.r0 f.r1 f.r2
      | true, false => Config.fs304Case46 n f.r0 f.r1 f.r2
      | true, true => f.r2.extractLsb' 0 4 ++ f.r0.extractLsb' 0 4)

/-- The state after the register file became `f` and variant UNLFS304's Sync ran (41_bank_sync.md R164, R173). -/
def State.syncedC (s : State) (f : RegFile) : State :=
  { s with
    reg := f, prgWin := some (indexC s.fs304Formulas f), chrLo := some 0, chrHi := some 1, wramWin := true, out := .none }

/-- The part an instruction plays. -/
inductive Role where
  /-- A configuration write of register `r`, with or without a Sync. -/
  | regWrite (r : RegName) (syncs : Bool)
  /-- The PRG quirk. -/
  | forcePrg
  /-- The strobe write. -/
  | strobe
  /-- A bus read or a pattern fetch. -/
  | read
  /-- A work-RAM write. -/
  | wramStore
  /-- A transaction without an effect on the block. -/
  | noEffect
  /-- A scanline-127 or scanline-239 event of variant 163. -/
  | override
  /-- The template's interrupt hook. -/
  | irq
  /-- A power-on. -/
  | power
  /-- A save, of fields or of the battery image. -/
  | save
  /-- A restore. -/
  | restore
  | teardown
  | create
  | batload
deriving DecidableEq, Repr

/-- The part each instruction plays. -/
def roleOf : Instr → Role
  | .w164Reg1 _ _ => .regWrite .r1 true
  | .w164Reg0 _ _ => .regWrite .r0 true
  | .w164Reg3 _ _ => .regWrite .r3 true
  | .w164Reg2 _ _ => .regWrite .r2 false
  | .r164Cfg _ => .read
  | .w163Strobe _ => .strobe
  | .w163ForcePrg => .forcePrg
  | .w163Reg1 _ _ => .regWrite .r1 true
  | .w163Reg3 _ _ => .regWrite .r3 true
  | .w163Reg0 _ _ => .regWrite .r0 true
  | .w163Reg2 _ _ => .regWrite .r2 false
  | .r163Trig _ => .read
  | .r163Status _ => .read
  | .r163Default _ => .read
  | .wfsReg0 _ _ => .regWrite .r0 true
  | .wfsReg1 _ _ => .regWrite .r1 true
  | .wfsReg2 _ _ => .regWrite .r2 true
  | .wfsReg3 _ _ => .regWrite .r3 true
  | .rfsCfg _ => .read
  | .wtNop _ _ => .noEffect
  | .rtCfg _ => .read
  | .wtWramW _ _ => .noEffect
  | .wtWramR _ => .read
  | .wramW _ _ => .wramStore
  | .wramR _ => .read
  | .prgR _ => .read
  | .prgW _ _ => .noEffect
  | .chrR _ => .read
  | .ev163Sl239 => .override
  | .ev163Sl127 => .override
  | .ev163SlOther _ => .noEffect
  | .ev164Sl _ => .noEffect
  | .evfsSl _ => .noEffect
  | .evtSl _ => .irq
  | .power164 _ => .power
  | .power163 _ => .power
  | .powerFs304 _ => .power
  | .powerT _ => .power
  | .reset _ => .noEffect
  | .save _ => .save
  | .saveT _ => .save
  | .restore _ _ => .restore
  | .restoreT _ _ => .noEffect
  | .teardown _ => .teardown
  | .create _ _ _ => .create
  | .batload _ _ => .batload
  | .batsave _ => .save

/-- The transactions that end with a Sync (41_bank_sync.md R172). -/
def syncs : Role → Bool
  | .regWrite _ b => b
  | .power | .restore => true
  | .forcePrg | .strobe | .read | .wramStore | .noEffect | .override | .irq | .save | .teardown | .create | .batload => false

/-- The transactions that move no window output: neither a Sync, nor the quirk, nor an override, nor the making or the
end of an instance. -/
def keepsWindows : Role → Bool
  | .regWrite _ b => !b
  | .strobe | .read | .wramStore | .noEffect | .irq | .save | .batload => true
  | .forcePrg | .override | .power | .restore | .teardown | .create => false

/-- The four window outputs are the same. -/
def sameWindows (s t : State) : Prop :=
  t.prgWin = s.prgWin ∧ t.chrLo = s.chrLo ∧ t.chrHi = s.chrHi ∧ t.wramWin = s.wramWin

/-- Both latch bytes are the same. -/
def sameLatch (s t : State) : Prop := t.lastStrobe = s.lastStrobe ∧ t.trigger = s.trigger

/-- Every byte of the work RAM reads the same. -/
def sameWram (s t : State) : Prop := ∀ k, t.wram.read k = s.wram.read k

/-- The same instance: variant, battery and phase. -/
def sameInstance (s t : State) : Prop := t.variant = s.variant ∧ t.battery = s.battery ∧ t.phase = s.phase

/-- The parameters and the queue of transactions are the same. -/
def sameSurroundings (s t : State) : Prop :=
  t.readDefault = s.readDefault ∧ t.lastStrobePower163 = s.lastStrobePower163 ∧
    t.fs304Formulas = s.fs304Formulas ∧ t.pending = s.pending

/-- The meanings of `is`, run one after the other. -/
def execAll : List Instr → State → Result
  | [], s => .next s
  | i :: is, s =>
    match exec i s with
    | .next t => execAll is t
    | .fault f => .fault f
    | .refused r => .refused r

/-- The deliveries `dls`, each decoded and run, one after the other (20_memory.md R70). -/
def deliverAll : List Delivery → State → Result
  | [], s => .next s
  | dl :: dls, s =>
    match step { s with pending := [dl] } with
    | .next t => deliverAll dls t
    | .fault f => .fault f
    | .refused r => .refused r

/-- How many strobe writes of `ds` are falling edges, when the strobe value before them is `last`
(43_protection_latch.md R212). -/
def fallingEdges : Byte → List Byte → Nat
  | _, [] => 0
  | last, d :: ds => (if last ≠ 0x00 ∧ d = 0x00 then 1 else 0) + fallingEdges d ds

/-- The CHR half-windows hold banks `lo` and `hi`. -/
def State.chrIs (s : State) (lo hi : Byte) : Prop := s.chrLo = some lo ∧ s.chrHi = some hi

/-- No window is mapped. -/
def State.unmapped (s : State) : Prop :=
  s.prgWin = none ∧ s.chrLo = none ∧ s.chrHi = none ∧ s.wramWin = false

/-- The window outputs in phase `Running`, by variant (10_state.md R40): what Sync computes from `reg`, but for a quirk or
an override of variant 163; an override only in split-CHR mode. -/
def State.windowsLegal (s : State) : Prop :=
  match s.variant with
  | .v164 => s.wramWin = true ∧ s.prgWin = some (formulaA s.reg) ∧ s.chrIs 0 1
  | .v163 =>
    s.wramWin = true ∧ (s.prgWin = some (formulaA s.reg) ∨ s.prgWin = some 3) ∧
      (s.chrIs 0 1 ∨ (splitChr s.reg = true ∧ (s.chrIs 0 0 ∨ s.chrIs 1 1)))
  | .vFS304 => s.wramWin = true ∧ s.prgWin = some (formulaC s.fs304Formulas s.reg) ∧ s.chrIs 0 1
  | .vTemplate => s.unmapped

/-- Nothing of the instance but its work RAM differs from creation (45_lifecycle.md R250). -/
def State.registersFresh (s : State) : Prop :=
  s.reg = RegFile.zero ∧ s.lastStrobe = 0x00 ∧ s.trigger = 0x00

/-- The invariant of the machine: the work RAM is in canonical form; the windows are legal when `Running` and unmapped
otherwise; a template has no work RAM and untouched registers; a new instance has untouched registers; a torn-down one
has no work RAM. -/
structure State.Inv (s : State) : Prop where
  wram_wf : Memory.wf Config.wramSize s.wram = true
  windows : s.phase = .running → s.windowsLegal
  idle    : s.phase ≠ .running → s.unmapped
  tmpl    : s.variant = .vTemplate → s.wram = [] ∧ s.registersFresh
  fresh   : s.phase = .created → s.registersFresh
  gone    : s.phase = .tornDown → s.wram = []

end Sys2Proof.Machine
end

