-- ==== Sys2Proof/Certificates/Slice0/Obligations.lean ====
section
/-! DEFINITION. The statements for the provers. -/

open Sys2Proof Sys2Proof.Machine

/-- Decoding the encoding of a well-formed instruction gives it back, with every operand at every value its row admits
(30_encoding.md R90-R98). -/
def Obligations.DecodeOfEncodeIsTheInstruction : Prop :=
  ∀ (v : Variant) (i : Instr), i.wellFormed = true → i.inVariant v = true → decode v (encode i) = .ok i

/-- What the decoder reads encodes back to the delivery it was read from, is well-formed, and is a row of the instance's
variant: no bit of a word is dropped (30_encoding.md R90-R98). -/
def Obligations.DecodedInstructionEncodesBack : Prop :=
  ∀ (v : Variant) (dl : Delivery) (i : Instr),
    decode v dl = .ok i → encode i = dl ∧ i.wellFormed = true ∧ i.inVariant v = true

/-- The bus encodings outside the configuration range, for every variant; an access below 0x5000, which is never delivered,
stands for no row (30_encoding.md R98). -/
def Obligations.BusRangesDecodeToTheirRows : Prop :=
  ∀ (v : Variant) (a p : Addr) (d : Byte),
    (a.extractLsb' 13 3 = 0x3#3 → v ≠ .vTemplate →
      decode v (.busw (a ++ d)) = .ok (.wramW a d) ∧ decode v (.busr a) = .ok (.wramR a)) ∧
    (a.extractLsb' 13 3 = 0x3#3 → v = .vTemplate →
      decode v (.busw (a ++ d)) = .ok (.wtWramW a d) ∧ decode v (.busr a) = .ok (.wtWramR a)) ∧
    (a.extractLsb' 15 1 = 0x1#1 → decode v (.busr a) = .ok (.prgR a) ∧ decode v (.busw (a ++ d)) = .ok (.prgW a d)) ∧
    (p.toNat < 0x2000 → decode v (.ppur p) = .ok (.chrR p)) ∧
    (a.toNat < 0x5000 → ∀ i, decode v (.busw (a ++ d)) ≠ .ok i ∧ decode v (.busr a) ≠ .ok i)

/-- Every write and every read of the configuration range stands for exactly one row of the instance's variant: a row that
admits it and whose encoding it is (30_encoding.md R96, R97, R99). -/
def Obligations.ConfigurationAccessMatchesOneRow : Prop :=
  ∀ (v : Variant) (a : Addr) (d : Byte), a.extractLsb' 12 4 = 0x5#4 →
    (∃ i : Instr, (i.wellFormed = true ∧ i.inVariant v = true ∧ encode i = .busw (a ++ d)) ∧
      ∀ j : Instr, j.wellFormed = true → j.inVariant v = true → encode j = .busw (a ++ d) → j = i) ∧
    (∃ i : Instr, (i.wellFormed = true ∧ i.inVariant v = true ∧ encode i = .busr a) ∧
      ∀ j : Instr, j.wellFormed = true → j.inVariant v = true → encode j = .busr a → j = i)

/-- Words written out from the spec's encodings decode to the instructions they stand for (95_test_vectors.md §1, §2). -/
def Obligations.SampleWordsDecode : Prop :=
  decode .v164 (.busw 0x510003) = .ok (.w164Reg0 0x5100 0x03) ∧
  decode .v163 (.busw 0x510006) = .ok .w163ForcePrg ∧
  decode .v163 (.busw 0x518006) = .ok (.w163Reg3 0x5180 0x06) ∧
  decode .v163 (.busr 0x5D00) = .ok (.r163Trig 0x5D00) ∧
  decode .vFS304 (.busw 0x57FF01) = .ok (.wfsReg3 0x57FF 0x01) ∧
  decode .vTemplate (.evt 0x010005 .none) = .ok (.evtSl 5) ∧
  decode .v163 (.evt 0x01FFFF .none) = .ok (.ev163SlOther 0xFFFF) ∧
  decode .v164 (.evt 0x070005 .none) = .ok (.create 0 true .v163)

/-- An event whose code names no event is refused with `BadEvent`, in every phase, whatever its payload
(30_encoding.md R94; 10_state.md R36; the phase is the model's reading, log 8). -/
def Obligations.UnknownEventCodeIsRefused : Prop :=
  ∀ (s : State) (w : BitVec 24) (p : Payload) (rest : List Delivery),
    s.pending = .evt w p :: rest → (w.extractLsb' 16 8).toNat = 0 ∨ 9 < (w.extractLsb' 16 8).toNat →
    step s = .refused .badEvent

/-- A step takes the next transaction out of the queue and is `exec` of the instruction it decodes to under the instance's
variant; it refuses one that does not decode, by the decoder's reason; with nothing pending it changes nothing. The queue
and the idle step are the model's choice, log 2. Of the decoder's reasons `BadEvent` alone is the spec's (10_state.md R36,
30_encoding.md R94), its being given in every phase being log 8; that any other delivery which stands for no transaction is
refused, and by which name, is the model's choice, log 10. -/
def Obligations.StepRunsTheDecodedInstruction : Prop :=
  (∀ (s : State) (dl : Delivery) (rest : List Delivery) (i : Instr),
    s.pending = dl :: rest → decode s.variant dl = .ok i → step s = exec i { s with pending := rest }) ∧
  (∀ (s : State) (dl : Delivery) (rest : List Delivery) (e : DecodeError),
    s.pending = dl :: rest → decode s.variant dl = .error e → step s = .refused (refusalOf e)) ∧
  (∀ s : State, s.pending = [] → step s = .next s)

/-- A table word placed by `withFetchWord` is what the next step runs (log 3). -/
def Obligations.FetchWordIsTheNextTransaction : Prop :=
  ∀ (s : State) (nbits w : Nat) (i : Instr), s.variant = tableVariant → decodeTableWord nbits w = some i →
    step (s.withFetchWord nbits w) = exec i s

/-- Variant 164's register writes: which word is which write, and the whole next state of each
(40_write_decoder.md R121-R124). -/
def Obligations.Write164SetsItsRegister : Prop :=
  ∀ (s : State) (a : Addr) (d : Byte), s.readyAs .v164 → a.extractLsb' 12 4 = 0x5#4 →
    (a.extractLsb' 8 2 = 0#2 → decode .v164 (.busw (a ++ d)) = .ok (.w164Reg1 a d) ∧
      exec (.w164Reg1 a d) s = .next (s.syncedA { s.reg with r1 := d })) ∧
    (a.extractLsb' 8 2 = 1#2 → decode .v164 (.busw (a ++ d)) = .ok (.w164Reg0 a d) ∧
      exec (.w164Reg0 a d) s = .next (s.syncedA { s.reg with r0 := d })) ∧
    (a.extractLsb' 8 2 = 2#2 → decode .v164 (.busw (a ++ d)) = .ok (.w164Reg3 a d) ∧
      exec (.w164Reg3 a d) s = .next (s.syncedA { s.reg with r3 := d })) ∧
    (a.extractLsb' 8 2 = 3#2 → decode .v164 (.busw (a ++ d)) = .ok (.w164Reg2 a d) ∧
      exec (.w164Reg2 a d) s = .next { s with reg := { s.reg with r2 := d }, out := .none })

/-- Variant 163's register writes, outside the strobe port and the quirk pair: which word is which write, and the whole
next state of each (40_write_decoder.md R127, R129-R131). -/
def Obligations.Write163SetsItsRegister : Prop :=
  ∀ (s : State) (a : Addr) (d : Byte), s.readyAs .v163 → a.extractLsb' 12 4 = 0x5#4 → a ≠ 0x5101 →
    ¬(a = 0x5100 ∧ d = 0x06) →
    (a.extractLsb' 8 2 = 0#2 → decode .v163 (.busw (a ++ d)) = .ok (.w163Reg1 a d) ∧
      exec (.w163Reg1 a d) s = .next (s.syncedA { s.reg with r1 := d })) ∧
    (a.extractLsb' 8 2 = 1#2 → decode .v163 (.busw (a ++ d)) = .ok (.w163Reg3 a d) ∧
      exec (.w163Reg3 a d) s = .next (s.syncedA { s.reg with r3 := d })) ∧
    (a.extractLsb' 8 2 = 2#2 → decode .v163 (.busw (a ++ d)) = .ok (.w163Reg0 a d) ∧
      exec (.w163Reg0 a d) s = .next (s.syncedA { s.reg with r0 := d })) ∧
    (a.extractLsb' 8 2 = 3#2 → decode .v163 (.busw (a ++ d)) = .ok (.w163Reg2 a d) ∧
      exec (.w163Reg2 a d) s = .next { s with reg := { s.reg with r2 := d }, out := .none })

/-- The PRG quirk: bank 3 in the PRG window and nothing else changed; once done, doing it again changes nothing
(40_write_decoder.md R128). -/
def Obligations.PrgQuirkForcesBankThree : Prop :=
  ∀ s : State, s.readyAs .v163 →
    decode .v163 (.busw 0x510006) = .ok .w163ForcePrg ∧
    exec .w163ForcePrg s = .next { s with prgWin := some 3, out := .none } ∧
    exec .w163ForcePrg { s with prgWin := some 3, out := .none } = .next { s with prgWin := some 3, out := .none }

/-- The strobe write: `trigger` inverted in bit 0 exactly on a falling edge, `lastStrobe` the value written, nothing else
changed (43_protection_latch.md R211). -/
def Obligations.StrobeTogglesOnFallingEdge : Prop :=
  ∀ (s : State) (d : Byte), s.readyAs .v163 →
    decode .v163 (.busw (0x5101#16 ++ d)) = .ok (.w163Strobe d) ∧
    (s.lastStrobe ≠ 0x00 ∧ d = 0x00 →
      exec (.w163Strobe d) s = .next { s with lastStrobe := d, trigger := s.trigger ^^^ 0x01, out := .none }) ∧
    (¬(s.lastStrobe ≠ 0x00 ∧ d = 0x00) → exec (.w163Strobe d) s = .next { s with lastStrobe := d, out := .none })

/-- Variant UNLFS304's register writes: `reg[A[9:8]]` is written and Sync pushes the index of the bit table, or under another
`FS304_FORMULAS` the index of its formulas (40_write_decoder.md R135-R138; 41_bank_sync.md R164, R173; 00_scope.md R7). What
another set of formulas is, three functions of `reg[0..2]` beside the fixed cases and the fixed case 5/7, is the model's
reading, log 7. -/
def Obligations.WriteFs304SetsItsRegisterAndSyncs : Prop :=
  ∀ (s : State) (a : Addr) (d : Byte), s.readyAs .vFS304 → a.extractLsb' 12 4 = 0x5#4 →
    (a.extractLsb' 8 2 = 0#2 → decode .vFS304 (.busw (a ++ d)) = .ok (.wfsReg0 a d) ∧
      exec (.wfsReg0 a d) s = .next (s.syncedC { s.reg with r0 := d })) ∧
    (a.extractLsb' 8 2 = 1#2 → decode .vFS304 (.busw (a ++ d)) = .ok (.wfsReg1 a d) ∧
      exec (.wfsReg1 a d) s = .next (s.syncedC { s.reg with r1 := d })) ∧
    (a.extractLsb' 8 2 = 2#2 → decode .vFS304 (.busw (a ++ d)) = .ok (.wfsReg2 a d) ∧
      exec (.wfsReg2 a d) s = .next (s.syncedC { s.reg with r2 := d })) ∧
    (a.extractLsb' 8 2 = 3#2 → decode .vFS304 (.busw (a ++ d)) = .ok (.wfsReg3 a d) ∧
      exec (.wfsReg3 a d) s = .next (s.syncedC { s.reg with r3 := d }))

/-- The transactions without an effect that every program can issue: the template's configuration and work-RAM writes, every
variant's write above 0x7FFF, and a soft reset, which is refused outside phase `Running` (40_write_decoder.md R140, R148,
R150; 45_lifecycle.md R255). -/
def Obligations.IgnoredWritesAndSoftResetChangeNothing : Prop :=
  ∀ (s : State) (a : Addr) (d : Byte) (n : Operand),
    (s.readyAs .vTemplate → a.extractLsb' 12 4 = 0x5#4 →
      decode .vTemplate (.busw (a ++ d)) = .ok (.wtNop a d) ∧ exec (.wtNop a d) s = .next { s with out := .none }) ∧
    (s.readyAs .vTemplate → a.extractLsb' 13 3 = 0x3#3 →
      decode .vTemplate (.busw (a ++ d)) = .ok (.wtWramW a d) ∧ exec (.wtWramW a d) s = .next { s with out := .none }) ∧
    (s.phase = .running → a.extractLsb' 15 1 = 0x1#1 →
      decode s.variant (.busw (a ++ d)) = .ok (.prgW a d) ∧ exec (.prgW a d) s = .next { s with out := .none }) ∧
    decode s.variant (.evt (0x03#8 ++ n) .none) = .ok (.reset n) ∧
    (s.phase = .running → exec (.reset n) s = .next { s with out := .none }) ∧
    (s.phase = .created → exec (.reset n) s = .refused .notPowered) ∧
    (s.phase = .tornDown → exec (.reset n) s = .refused .tornDown)

/-- Formula A of variants 164 and 163, the 12-bit concatenation `{reg[0][7:0], reg[1][3:0]}`, and its largest value
(41_bank_sync.md R161). -/
def Obligations.FormulaAConcatenates : Prop :=
  (∀ f : RegFile, formulaA f = f.r0 ++ f.r1.extractLsb' 0 4) ∧
  (∀ f : RegFile, f.r0 = 0xFF → f.r1 = 0x0F → formulaA f = 0xFFF#12) ∧
  (∀ f : RegFile, f.r0 = 0x00 → f.r1 = 0xF0 → formulaA f = 0x000#12)

/-- Formula C of UNLFS304 in each of its four cases: case 5/7, which is no parameter, whatever `FS304_FORMULAS` is; the
other three under its default (41_bank_sync.md R165-R169; 00_scope.md R7). -/
def Obligations.FormulaCInEachCase : Prop :=
  ∀ (p : Fs304Formulas) (f : RegFile),
    (f.r3.extractLsb' 0 3 = 5#3 ∨ f.r3.extractLsb' 0 3 = 7#3 →
      formulaC p f = 0#4 ++ (f.r2.extractLsb' 0 4 ++ f.r0.extractLsb' 0 4)) ∧
    (f.r3.extractLsb' 0 3 = 0#3 ∨ f.r3.extractLsb' 0 3 = 2#3 →
      formulaC .standard f = 0#4 ++ (f.r2.extractLsb' 0 4 ++ (f.r0.extractLsb' 2 2 ++ (f.r1.extractLsb' 1 1 ++ 0#1)))) ∧
    (f.r3.extractLsb' 0 3 = 1#3 ∨ f.r3.extractLsb' 0 3 = 3#3 →
      formulaC .standard f = 0#4 ++ (f.r2.extractLsb' 0 4 ++ (f.r0.extractLsb' 2 2 ++ 0#2))) ∧
    (f.r3.extractLsb' 0 3 = 4#3 ∨ f.r3.extractLsb' 0 3 = 6#3 →
      formulaC .standard f = 0#4 ++ (f.r2.extractLsb' 0 4 ++ (f.r0.extractLsb' 1 3 ++ f.r1.extractLsb' 1 1)))

/-- The literal formulas of UNLFS304, the default of `FS304_FORMULAS`, and the bit table of 41_bank_sync.md R173 give the
same index for every register file. -/
def Obligations.FormulaCAgreesWithTheBitTable : Prop :=
  ∀ f : RegFile, formulaC .standard f = tableIndex f

/-- In every formula the ORed fields occupy disjoint bit positions, so each OR is an addition without a carry
(41_bank_sync.md R171). -/
def Obligations.FormulasAddWithoutCarry : Prop :=
  ∀ f : RegFile,
    (formulaA f).toNat = f.r0.toNat * 16 + f.r1.toNat % 16 ∧
    (fsCase57 f).toNat = f.r0.toNat % 16 + f.r2.toNat % 16 * 16 ∧
    (fsCase02 f).toNat = f.r0.toNat / 4 % 4 * 4 + f.r1.toNat / 2 % 2 * 2 + f.r2.toNat % 16 * 16 ∧
    (fsCase13 f).toNat = f.r0.toNat / 4 % 4 * 4 + f.r2.toNat % 16 * 16 ∧
    (fsCase46 f).toNat = f.r0.toNat / 2 % 8 * 2 + f.r1.toNat / 2 % 2 + f.r2.toNat % 16 * 16

/-- Sync is idempotent, writes the four window outputs alone, and what it pushes depends on the variant, `reg[0..3]` and the
parameter `FS304_FORMULAS` alone; the template's Sync does nothing (41_bank_sync.md R160, R170, R174; 00_scope.md R7). -/
def Obligations.SyncIsPureAndIdempotent : Prop :=
  (∀ s : State, s.sync.sync = s.sync) ∧
  (∀ s : State, s.sync =
    { s with prgWin := s.sync.prgWin, chrLo := s.sync.chrLo, chrHi := s.sync.chrHi, wramWin := s.sync.wramWin }) ∧
  (∀ s u : State, s.variant = u.variant → s.variant ≠ .vTemplate → s.fs304Formulas = u.fs304Formulas →
    s.reg.r0 = u.reg.r0 → s.reg.r1 = u.reg.r1 → s.reg.r2 = u.reg.r2 → s.reg.r3 = u.reg.r3 →
    sameWindows s.sync u.sync) ∧
  (∀ s : State, s.variant = .vTemplate → s.sync = s)

/-- The reads the block does not drive: configuration reads of the variants without a read handler, and the template's
work-RAM reads. Some byte of the environment is on the bus, nothing says which, and nothing of the block changes
(40_write_decoder.md R133, R139, R141, R151; the count of draws is the model's own, log 4, and stays open here). -/
def Obligations.UndrivenReadsChangeNothing : Prop :=
  ∀ (s : State) (a : Addr),
    (s.readyAs .v164 → a.extractLsb' 12 4 = 0x5#4 → decode .v164 (.busr a) = .ok (.r164Cfg a) ∧
      ∃ b k, exec (.r164Cfg a) s = .next { s with out := .undriven b, draws := k }) ∧
    (s.readyAs .vFS304 → a.extractLsb' 12 4 = 0x5#4 → decode .vFS304 (.busr a) = .ok (.rfsCfg a) ∧
      ∃ b k, exec (.rfsCfg a) s = .next { s with out := .undriven b, draws := k }) ∧
    (s.readyAs .vTemplate → a.extractLsb' 12 4 = 0x5#4 → decode .vTemplate (.busr a) = .ok (.rtCfg a) ∧
      ∃ b k, exec (.rtCfg a) s = .next { s with out := .undriven b, draws := k }) ∧
    (s.readyAs .vTemplate → a.extractLsb' 13 3 = 0x3#3 → decode .vTemplate (.busr a) = .ok (.wtWramR a) ∧
      ∃ b k, exec (.wtWramR a) s = .next { s with out := .undriven b, draws := k })

/-- A work-RAM write, while the work RAM is mapped, stores `D` at offset `A[12:0]`, which is `A - 0x6000`, and changes no
other byte and nothing else of the block (40_write_decoder.md R145; 20_memory.md R62). -/
def Obligations.WramWriteStoresItsByte : Prop :=
  ∀ (s : State) (a : Addr) (d : Byte), s.boardReady → s.wramWin = true → Memory.wf Config.wramSize s.wram = true →
    a.extractLsb' 13 3 = 0x3#3 →
    decode s.variant (.busw (a ++ d)) = .ok (.wramW a d) ∧ wramOffset a = a.toNat - 0x6000 ∧
    ∃ t, exec (.wramW a d) s = .next t ∧ t = { s with wram := t.wram, out := .none } ∧
      t.wram.read (wramOffset a) = d ∧ ∀ k, k ≠ wramOffset a → t.wram.read k = s.wram.read k

/-- A work-RAM read drives the byte at offset `A[12:0]` while the work RAM is mapped (40_write_decoder.md R146). -/
def Obligations.WramReadDrivesItsByte : Prop :=
  ∀ (s : State) (a : Addr), s.boardReady → s.wramWin = true → a.extractLsb' 13 3 = 0x3#3 →
    decode s.variant (.busr a) = .ok (.wramR a) ∧
    exec (.wramR a) s = .next { s with out := .drive (s.wram.read (a.toNat - 0x6000)) }

/-- Where the work RAM is not mapped, in every state that meets the invariant, its range is not served: a running instance
is then a template, whose write there has no effect and whose read is not driven; before the first power-on and after
teardown the access is refused (20_memory.md R62; 10_state.md R36, R40; the count of draws is the model's own, log 4). -/
def Obligations.UnmappedWramIsNotServed : Prop :=
  ∀ (s : State) (a : Addr) (d : Byte), s.Inv → s.wramWin = false → a.extractLsb' 13 3 = 0x3#3 →
    (s.phase = .running → s.variant = .vTemplate ∧
      decode s.variant (.busw (a ++ d)) = .ok (.wtWramW a d) ∧ exec (.wtWramW a d) s = .next { s with out := .none } ∧
      decode s.variant (.busr a) = .ok (.wtWramR a) ∧
      ∃ b k, exec (.wtWramR a) s = .next { s with out := .undriven b, draws := k }) ∧
    (∀ i, decode s.variant (.busw (a ++ d)) = .ok i ∨ decode s.variant (.busr a) = .ok i →
      (s.phase = .created → exec i s = .refused .notPowered) ∧ (s.phase = .tornDown → exec i s = .refused .tornDown))

/-- A read of the PRG window drives byte `A[14:0]` of the PRG 32 KiB bank `prgWin & PRG32_MASK`, and is not driven when no
bank was pushed; no state changes (40_write_decoder.md R147). -/
def Obligations.PrgReadGoesThroughTheWindow : Prop :=
  ∀ (s : State) (a : Addr), s.phase = .running → a.extractLsb' 15 1 = 0x1#1 →
    decode s.variant (.busr a) = .ok (.prgR a) ∧
    (∀ idx, s.prgWin = some idx →
      exec (.prgR a) s =
        .next { s with out := .drive (Config.prgRom ((idx &&& Config.prg32Mask).toNat * 0x8000 + (a.toNat - 0x8000))) }) ∧
    (s.prgWin = none → ∃ b k, exec (.prgR a) s = .next { s with out := .undriven b, draws := k })

/-- A pattern fetch drives byte `P[11:0]` of the CHR 4 KiB bank of its half-window, and is not driven when no bank was
pushed; no state changes (40_write_decoder.md R149; 20_memory.md R64). -/
def Obligations.PatternFetchGoesThroughItsHalf : Prop :=
  ∀ (s : State) (p : Addr) (lo hi : Byte), s.phase = .running → p.toNat < 0x2000 →
    decode s.variant (.ppur p) = .ok (.chrR p) ∧
    (s.chrIs lo hi → p.toNat < 0x1000 →
      exec (.chrR p) s = .next { s with out := .drive (Config.chrMem ((lo &&& Config.chr4Mask).toNat * 0x1000 + p.toNat)) }) ∧
    (s.chrIs lo hi → 0x1000 ≤ p.toNat →
      exec (.chrR p) s =
        .next { s with out := .drive (Config.chrMem ((hi &&& Config.chr4Mask).toNat * 0x1000 + (p.toNat - 0x1000))) }) ∧
    (s.chrLo = none → s.chrHi = none → ∃ b k, exec (.chrR p) s = .next { s with out := .undriven b, draws := k })

/-- The variant-163 read ports: the trigger port, the composite port and the default, by `A[10:8]`; no state changes
(43_protection_latch.md R215-R217; 30_encoding.md R97). -/
def Obligations.ReadPorts163DriveTheirBytes : Prop :=
  ∀ (s : State) (a : Addr), s.readyAs .v163 → a.extractLsb' 12 4 = 0x5#4 →
    (a.extractLsb' 8 3 = 5#3 → decode .v163 (.busr a) = .ok (.r163Trig a) ∧
      (s.trigger ≠ 0x00 → exec (.r163Trig a) s = .next { s with out := .drive (s.reg.r2 ||| s.reg.r1) }) ∧
      (s.trigger = 0x00 → exec (.r163Trig a) s = .next { s with out := .drive 0x00 })) ∧
    (a.extractLsb' 8 3 = 1#3 → decode .v163 (.busr a) = .ok (.r163Status a) ∧
      exec (.r163Status a) s = .next { s with out := .drive (s.reg.r2 ||| s.reg.r0 ||| s.reg.r1 ||| ~~~s.reg.r3) }) ∧
    (a.extractLsb' 8 3 ≠ 1#3 → a.extractLsb' 8 3 ≠ 5#3 → decode .v163 (.busr a) = .ok (.r163Default a) ∧
      exec (.r163Default a) s = .next { s with out := .drive s.readDefault })

/-- The variant-163 scanline hook: in split-CHR mode scanline 239 maps CHR bank 0 and scanline 127 CHR bank 1 into both
halves; with the flag clear, and on every other scanline, nothing changes (42_scanline_hook.md R191-R193). -/
def Obligations.ScanlineHook163OverridesChr : Prop :=
  ∀ (s : State) (n : Operand), s.readyAs .v163 →
    decode .v163 (.evt 0x0100EF .none) = .ok .ev163Sl239 ∧ decode .v163 (.evt 0x01007F .none) = .ok .ev163Sl127 ∧
    (s.reg.r1.getLsbD 7 = true →
      exec .ev163Sl239 s = .next { s with chrLo := some 0, chrHi := some 0, out := .none } ∧
      exec .ev163Sl127 s = .next { s with chrLo := some 1, chrHi := some 1, out := .none }) ∧
    (s.reg.r1.getLsbD 7 = false →
      exec .ev163Sl239 s = .next { s with out := .none } ∧ exec .ev163Sl127 s = .next { s with out := .none }) ∧
    (n ≠ 239 → n ≠ 127 →
      decode .v163 (.evt (0x01#8 ++ n) .none) = .ok (.ev163SlOther n) ∧
      exec (.ev163SlOther n) s = .next { s with out := .none })

/-- Scanline events of the other variants: no effect on 164 and UNLFS304, one interrupt request on Template and no other
change, for every scanline number (42_scanline_hook.md R195-R197). -/
def Obligations.OtherScanlineEventsMoveNothing : Prop :=
  ∀ (s : State) (n : Operand),
    (s.readyAs .v164 → decode .v164 (.evt (0x01#8 ++ n) .none) = .ok (.ev164Sl n) ∧
      exec (.ev164Sl n) s = .next { s with out := .none }) ∧
    (s.readyAs .vFS304 → decode .vFS304 (.evt (0x01#8 ++ n) .none) = .ok (.evfsSl n) ∧
      exec (.evfsSl n) s = .next { s with out := .none }) ∧
    (s.readyAs .vTemplate → decode .vTemplate (.evt (0x01#8 ++ n) .none) = .ok (.evtSl n) ∧
      exec (.evtSl n) s = .next { s with out := .irqAssert })

/-- The four power-ons, from phase `Created` or `Running`: registers, `lastStrobe`, windows and phase as the spec gives
them, everything else kept; refused after teardown (45_lifecycle.md R251-R254). The clause `out := .installed …` is the
model's choice, log 16: that what a power-on installs is handed out, as seven Bools, and that the template's PRG read, listed
in R257's table and finding no bank, is not counted among its handlers. -/
def Obligations.PowerOnSetsTheDocumentedValues : Prop :=
  ∀ (s : State) (n : Operand),
    (s.phase = .tornDown →
      exec (.power164 n) s = .refused .tornDown ∧ exec (.power163 n) s = .refused .tornDown ∧
      exec (.powerFs304 n) s = .refused .tornDown ∧ exec (.powerT n) s = .refused .tornDown) ∧
    (s.phase ≠ .tornDown → s.variant = .v164 → decode .v164 (.evt (0x02#8 ++ n) .none) = .ok (.power164 n) ∧
      exec (.power164 n) s = .next { s with
        reg := ⟨0x00, 0xFF, 0x00, 0x00, 0x00, 0x00, 0x00, 0x00⟩, prgWin := some 0x00F, chrLo := some 0, chrHi := some 1,
        wramWin := true, phase := .running, out := .installed ⟨true, false, true, true, false, false, true⟩ }) ∧
    (s.phase ≠ .tornDown → s.variant = .v163 → decode .v163 (.evt (0x02#8 ++ n) .none) = .ok (.power163 n) ∧
      exec (.power163 n) s = .next { s with
        reg := ⟨0x00, 0x00, 0x00, 0x00, 0x00, 0x00, 0x00, 0x00⟩, lastStrobe := s.lastStrobePower163, prgWin := some 0x000,
        chrLo := some 0, chrHi := some 1, wramWin := true, phase := .running,
        out := .installed ⟨true, true, true, true, true, false, true⟩ }) ∧
    (s.phase ≠ .tornDown → s.variant = .vFS304 → decode .vFS304 (.evt (0x02#8 ++ n) .none) = .ok (.powerFs304 n) ∧
      exec (.powerFs304 n) s = .next { s with
        reg := { s.reg with r0 := 0x03, r1 := 0x0B, r2 := 0x00, r3 := 0x07 }, prgWin := some 0x003, chrLo := some 0,
        chrHi := some 1, wramWin := true, phase := .running,
        out := .installed ⟨true, false, true, true, false, false, true⟩ }) ∧
    (s.phase ≠ .tornDown → s.variant = .vTemplate → decode .vTemplate (.evt (0x02#8 ++ n) .none) = .ok (.powerT n) ∧
      exec (.powerT n) s = .next { s with
        phase := .running, out := .installed ⟨true, false, false, false, false, true, false⟩ })

/-- CREATE makes a new instance: its variant and battery, every register, latch byte and work-RAM byte 0x00, no window
mapped, phase `Created` (45_lifecycle.md R250). That it does so in every phase, `TornDown` included, where 10_state.md R36
and R256 refuse any transaction and R250 has no precondition, is the model's reading, log 11. -/
def Obligations.CreateMakesAFreshInstance : Prop :=
  ∀ (s : State) (upper : BitVec 13) (battery : Bool) (v : Variant),
    decode s.variant (.evt (0x07#8 ++ (upper ++ (BitVec.ofBool battery ++ variantCode v))) .none) =
      .ok (.create upper battery v) ∧
    ∃ t, exec (.create upper battery v) s = .next t ∧ t.variant = v ∧ t.battery = battery ∧ t.registersFresh ∧
      (∀ k, t.wram.read k = 0x00) ∧ t.unmapped ∧ t.phase = .created

/-- Teardown, from phase `Created` or `Running`: no window mapped, phase `TornDown`, the work RAM's contents gone,
registers and latches kept; afterwards every transaction but a creation is refused (45_lifecycle.md R256). That a released
work RAM lists nothing is log 14; that CREATE is not refused is log 11; that a battery load or save is then refused with
`TornDown`, where R36 and R237 also give `NotCreated` or `NoBattery`, is the model's choice, log 8. -/
def Obligations.TeardownEndsTheInstance : Prop :=
  ∀ (s : State) (n : Operand),
    decode s.variant (.evt (0x06#8 ++ n) .none) = .ok (.teardown n) ∧
    (s.phase = .tornDown → exec (.teardown n) s = .refused .tornDown) ∧
    (s.phase ≠ .tornDown →
      exec (.teardown n) s = .next { s with
        wram := [], prgWin := none, chrLo := none, chrHi := none, wramWin := false, phase := .tornDown, out := .none } ∧
      ∀ (t : State) (i : Instr), exec (.teardown n) s = .next t → (∀ u b v, i ≠ .create u b v) →
        exec i t = .refused .tornDown)

/-- A save returns the four tagged fields, each of its size and byte for byte the state it names, and changes nothing; the
template's save returns no field; outside phase `Running` a save is refused (44_persistence.md R231-R233). -/
def Obligations.SaveReturnsTheTaggedFields : Prop :=
  ∀ (s : State) (n : Operand),
    (s.boardReady → decode s.variant (.evt (0x04#8 ++ n) .none) = .ok (.save n) ∧
      ∃ fs stb trg regs wram, exec (.save n) s = .next { s with out := .saved fs } ∧
        fs = [⟨.stb, stb⟩, ⟨.trg, trg⟩, ⟨.regs, regs⟩, ⟨.wram, wram⟩] ∧
        stb.size = 1 ∧ stb.get 0 = s.lastStrobe ∧ trg.size = 1 ∧ trg.get 0 = s.trigger ∧
        regs.size = 8 ∧ regs.get 0 = s.reg.r0 ∧ regs.get 1 = s.reg.r1 ∧ regs.get 2 = s.reg.r2 ∧ regs.get 3 = s.reg.r3 ∧
        regs.get 4 = s.reg.r4 ∧ regs.get 5 = s.reg.r5 ∧ regs.get 6 = s.reg.r6 ∧ regs.get 7 = s.reg.r7 ∧
        wram.size = 8192 ∧ ∀ k, wram.get k = s.wram.read k) ∧
    (s.readyAs .vTemplate → decode .vTemplate (.evt (0x04#8 ++ n) .none) = .ok (.saveT n) ∧
      exec (.saveT n) s = .next { s with out := .saved [] }) ∧
    (s.phase = .created → exec (.save n) s = .refused .notPowered ∧ exec (.saveT n) s = .refused .notPowered) ∧
    (s.phase = .tornDown → exec (.save n) s = .refused .tornDown ∧ exec (.saveT n) s = .refused .tornDown)

/-- A restore of fields of the right sizes writes exactly the registered fields it brings, ignores other tags, keeps the
fields it does not bring, and ends with Sync, for any byte values; with a registered field of the wrong length it is
refused with `BadStateField`, and outside phase `Running` by the phase (44_persistence.md R234). -/
def Obligations.RestoreLoadsFieldsThenSyncs : Prop :=
  ∀ (s : State) (n : Operand) (fs : List SavedField),
    (s.boardReady → fieldsWf fs = true → fieldSizesRight fs →
      decode s.variant (.evt (0x05#8 ++ n) (.fields fs)) = .ok (.restore n fs) ∧
      ∃ t, exec (.restore n fs) s = .next t ∧ t = t.sync ∧ sameInstance s t ∧ sameSurroundings s t ∧
        t.out = .none ∧ t.draws = s.draws ∧ t.wramWin = true ∧ t.chrIs 0 1 ∧
        (∀ b, fieldOf .stb fs = some b → t.lastStrobe = b.get 0) ∧
        (fieldOf .stb fs = none → t.lastStrobe = s.lastStrobe) ∧
        (∀ b, fieldOf .trg fs = some b → t.trigger = b.get 0) ∧
        (fieldOf .trg fs = none → t.trigger = s.trigger) ∧
        (∀ b, fieldOf .regs fs = some b →
          t.reg = ⟨b.get 0, b.get 1, b.get 2, b.get 3, b.get 4, b.get 5, b.get 6, b.get 7⟩) ∧
        (fieldOf .regs fs = none → t.reg = s.reg) ∧
        (∀ b, fieldOf .wram fs = some b → ∀ k, t.wram.read k = b.get k) ∧
        (fieldOf .wram fs = none → t.wram = s.wram)) ∧
    (s.boardReady → ¬fieldSizesRight fs → exec (.restore n fs) s = .refused .badStateField) ∧
    (s.phase = .created → exec (.restore n fs) s = .refused .notPowered) ∧
    (s.phase = .tornDown → exec (.restore n fs) s = .refused .tornDown)

/-- The template's restore ignores every field and changes nothing (44_persistence.md R235). -/
def Obligations.TemplateRestoreChangesNothing : Prop :=
  ∀ (s : State) (n : Operand) (fs : List SavedField), s.readyAs .vTemplate → fieldsWf fs = true →
    decode .vTemplate (.evt (0x05#8 ++ n) (.fields fs)) = .ok (.restoreT n fs) ∧
    exec (.restoreT n fs) s = .next { s with out := .none }

/-- A battery load, before the first power-on of a battery-backed board, puts the image into the work RAM and changes
nothing else; without a battery or for Template it is refused with `NoBattery`, and while `Running` with `NotCreated`
(44_persistence.md R237; that `NotCreated` goes before `NoBattery` is the model's reading, log 8). -/
def Obligations.BatteryLoadFillsTheWorkRam : Prop :=
  ∀ (s : State) (n : Operand) (image : Bytes),
    (image.wf = true → image.size = 8192 →
      decode s.variant (.evt (0x08#8 ++ n) (.image image)) = .ok (.batload n image)) ∧
    (s.phase = .created → s.battery = true → s.variant ≠ .vTemplate →
      ∃ t, exec (.batload n image) s = .next t ∧ t = { s with wram := t.wram, out := .none } ∧
        ∀ k, t.wram.read k = image.get k) ∧
    (s.phase = .created → s.battery = false ∨ s.variant = .vTemplate →
      exec (.batload n image) s = .refused .noBattery) ∧
    (s.phase = .running → exec (.batload n image) s = .refused .notCreated)

/-- A battery save, in phase `Created` or `Running` of a battery-backed board, returns the 8192 bytes of the work RAM and
changes nothing; without a battery or for Template it is refused with `NoBattery` (44_persistence.md R238). -/
def Obligations.BatterySaveReturnsTheWorkRam : Prop :=
  ∀ (s : State) (n : Operand), s.phase ≠ .tornDown →
    decode s.variant (.evt (0x09#8 ++ n) .none) = .ok (.batsave n) ∧
    (s.battery = true → s.variant ≠ .vTemplate →
      ∃ image, exec (.batsave n) s = .next { s with out := .image image } ∧ image.size = 8192 ∧
        ∀ k, image.get k = s.wram.read k) ∧
    (s.battery = false ∨ s.variant = .vTemplate → exec (.batsave n) s = .refused .noBattery)

/-- Outside phase `Running`: before the first power-on every transaction but a creation, a power-on, a teardown and the
battery transfers is refused with `NotPowered`; after a teardown every one but a creation is refused with `TornDown`
(10_state.md R36). That CREATE is not refused is log 11; that a battery load or save is then refused with `TornDown`, where
R36 and R237 also give `NotCreated` or `NoBattery`, is the model's choice, log 8. -/
def Obligations.RefusedOutsideRunning : Prop :=
  ∀ (s : State) (i : Instr),
    (s.phase = .created → roleOf i ≠ .create → roleOf i ≠ .power → roleOf i ≠ .teardown → roleOf i ≠ .batload →
      (∀ n, i ≠ .batsave n) → exec i s = .refused .notPowered) ∧
    (s.phase = .tornDown → roleOf i ≠ .create → exec i s = .refused .tornDown)

/-- In phase `Running` a row of the instance's variant always completes, but for a battery load, a battery save without a
battery, and a restore with a field of the wrong length (10_state.md R36; 60_exceptions.md R270). -/
def Obligations.RunningInstanceCompletesItsRows : Prop :=
  ∀ (s : State) (i : Instr), s.phase = .running → i.inVariant s.variant = true → roleOf i ≠ .batload →
    (∀ n, i = .batsave n → s.battery = true ∧ s.variant ≠ .vTemplate) →
    (∀ n fs, i = .restore n fs → fieldSizesRight fs) → ∃ t, exec i s = .next t

/-- A row of another variant has no effect: in phase `Running`, `exec` refuses it by the model's own reason; no step
reaches this, since the decoder gives rows of the instance's variant alone (10_state.md R20; log 9). -/
def Obligations.RowsOfOtherVariantsAreRefused : Prop :=
  ∀ (s : State) (i : Instr), s.phase = .running → i.inVariant s.variant = false → exec i s = .refused .otherVariant

/-- The frame of the register writes: every other register, the latch, the instance, its surroundings and every byte of
memory are unchanged, and so are the windows when the write does not Sync (40_write_decoder.md R121-R138). -/
def Obligations.RegisterWriteFrame : Prop :=
  ∀ (s t : State) (i : Instr) (r : RegName) (b : Bool), roleOf i = .regWrite r b → exec i s = .next t →
    (∀ q, q ≠ r → t.reg.get q = s.reg.get q) ∧ sameLatch s t ∧ sameInstance s t ∧ sameSurroundings s t ∧
    sameWram s t ∧ t.draws = s.draws ∧ (b = false → sameWindows s t)

/-- The frame of every read: registers, latch, windows, instance, surroundings and every byte of memory are unchanged
(43_protection_latch.md R218; 20_memory.md R69). -/
def Obligations.ReadsChangeNoBlockState : Prop :=
  ∀ (s t : State) (i : Instr), roleOf i = .read → exec i s = .next t →
    t.reg = s.reg ∧ sameLatch s t ∧ sameWindows s t ∧ sameInstance s t ∧ sameSurroundings s t ∧ t.wram = s.wram

/-- The frame of a work-RAM write: every byte outside the stored one, whose offset the operand gives, and everything else
of the block are unchanged (40_write_decoder.md R145). -/
def Obligations.WramWriteFrame : Prop :=
  ∀ (s t : State) (a : Addr) (d : Byte), exec (.wramW a d) s = .next t →
    t.reg = s.reg ∧ sameLatch s t ∧ sameWindows s t ∧ sameInstance s t ∧ sameSurroundings s t ∧
    ∀ k, k ≠ wramOffset a → t.wram.read k = s.wram.read k

/-- The frames of the strobe write, the PRG quirk and the scanline events: registers, instance, surroundings and memory
unchanged by all; windows by the strobe; latch, CHR halves and work-RAM window by the quirk; latch, PRG and work-RAM
windows by an override (43_protection_latch.md R211; 40_write_decoder.md R128; 42_scanline_hook.md R190). -/
def Obligations.LatchQuirkAndOverrideFrames : Prop :=
  ∀ (s t : State) (i : Instr), roleOf i = .strobe ∨ roleOf i = .forcePrg ∨ roleOf i = .override → exec i s = .next t →
    t.reg = s.reg ∧ sameInstance s t ∧ sameSurroundings s t ∧ sameWram s t ∧
    (roleOf i = .strobe → sameWindows s t) ∧
    (roleOf i = .forcePrg → sameLatch s t ∧ t.chrLo = s.chrLo ∧ t.chrHi = s.chrHi ∧ t.wramWin = s.wramWin) ∧
    (roleOf i = .override → sameLatch s t ∧ t.prgWin = s.prgWin ∧ t.wramWin = s.wramWin)

/-- The frames of the transactions without an effect, the interrupt hook, the saves and the power-ons: the first three
change nothing of the block; a power-on keeps `trigger`, every byte of the work RAM, the variant and the battery
(42_scanline_hook.md R197; 44_persistence.md R232, R238; 45_lifecycle.md R251-R255). -/
def Obligations.LifecycleFrames : Prop :=
  ∀ (s t : State) (i : Instr), exec i s = .next t →
    (roleOf i = .noEffect ∨ roleOf i = .irq ∨ roleOf i = .save →
      t.reg = s.reg ∧ sameLatch s t ∧ sameWindows s t ∧ sameInstance s t ∧ sameSurroundings s t ∧ sameWram s t) ∧
    (roleOf i = .power → t.trigger = s.trigger ∧ t.variant = s.variant ∧ t.battery = s.battery ∧ sameSurroundings s t ∧
      sameWram s t)

/-- The work RAM is written by work-RAM writes, a restore, a battery load, and the making or end of an instance alone; a
battery load touches no register, latch byte or window (44_persistence.md R239; 10_state.md R34). -/
def Obligations.OnlyItsWritersChangeTheWorkRam : Prop :=
  ∀ (s t : State) (i : Instr), exec i s = .next t →
    (roleOf i ≠ .wramStore → roleOf i ≠ .restore → roleOf i ≠ .batload → roleOf i ≠ .create → roleOf i ≠ .teardown →
      t.wram = s.wram) ∧
    (roleOf i = .batload →
      t.reg = s.reg ∧ sameLatch s t ∧ sameWindows s t ∧ sameInstance s t ∧ sameSurroundings s t)

/-- No transaction changes the variant or the battery of an instance (CREATE makes another instance), and none changes
the parameters or the transactions still to come (10_state.md R20; 00_scope.md R7; the queue is the model's, log 2). -/
def Obligations.VariantBatteryAndParametersAreFixed : Prop :=
  ∀ (s t : State) (i : Instr), exec i s = .next t →
    sameSurroundings s t ∧ (roleOf i ≠ .create → t.variant = s.variant ∧ t.battery = s.battery)

/-- The reserved registers `reg[4..7]` change by a variant-164 or variant-163 power-on, a restore, and the making of an
instance alone (10_state.md R22). -/
def Obligations.ReservedRegistersKeepTheirValues : Prop :=
  ∀ (s t : State) (i : Instr), exec i s = .next t → (∀ n, i ≠ .power164 n) → (∀ n, i ≠ .power163 n) →
    roleOf i ≠ .restore → roleOf i ≠ .create →
    t.reg.r4 = s.reg.r4 ∧ t.reg.r5 = s.reg.r5 ∧ t.reg.r6 = s.reg.r6 ∧ t.reg.r7 = s.reg.r7

/-- `lastStrobe` is written by the strobe write, a variant-163 power-on, a restore and the making of an instance alone;
`trigger` by a falling edge of the strobe, a restore and the making of an instance alone (10_state.md R28, R29). -/
def Obligations.OnlyItsWritersChangeTheLatch : Prop :=
  ∀ (s t : State) (i : Instr), exec i s = .next t → roleOf i ≠ .restore → roleOf i ≠ .create →
    (roleOf i ≠ .strobe → (∀ n, i ≠ .power163 n) → t.lastStrobe = s.lastStrobe) ∧
    (¬(i = .w163Strobe 0x00 ∧ s.lastStrobe ≠ 0x00) → t.trigger = s.trigger)

/-- Where Sync runs: after every power-on, restore and syncing register write the windows are what Sync computes from
`reg`; and every other transaction but the quirk, an override, and the making or end of an instance leaves the windows as
they were (41_bank_sync.md R172). -/
def Obligations.SyncRunsWhereTheSpecSays : Prop :=
  ∀ (s t : State) (i : Instr), exec i s = .next t →
    (syncs (roleOf i) = true → t.sync = t) ∧ (keepsWindows (roleOf i) = true → sameWindows s t)

/-- The state after reset meets the invariant. -/
def Obligations.ResetMeetsTheInvariant : Prop :=
  State.Inv State.reset

/-- Every step keeps the invariant: the work RAM in canonical form, the windows as 10_state.md R40 allows them in phase
`Running` and unmapped otherwise, a template untouched, a new instance's registers zero (10_state.md R33, R34, R40). -/
def Obligations.StepKeepsTheInvariant : Prop :=
  ∀ s t : State, s.Inv → step s = .next t → t.Inv

/-- Over any sequence of strobe writes, `trigger` is inverted in bit 0 once for each falling edge, the first write being
compared with the `lastStrobe` found; `lastStrobe` ends as the last value written, and nothing else of the block changes
(43_protection_latch.md R211, R212). -/
def Obligations.StrobeRunCountsFallingEdges : Prop :=
  ∀ (ds : List Byte) (s : State), s.readyAs .v163 →
    ∃ t, execAll (ds.map Instr.w163Strobe) s = .next t ∧
      t.lastStrobe = ds.getLastD s.lastStrobe ∧
      t.trigger = (if fallingEdges s.lastStrobe ds % 2 = 1 then s.trigger ^^^ 0x01 else s.trigger) ∧
      t.reg = s.reg ∧ sameWindows s t ∧ sameInstance s t ∧ sameWram s t

/-- Delivering the same scanline event again changes nothing further, for every variant and every scanline number
(42_scanline_hook.md R199). -/
def Obligations.ScanlineEventsAreIdempotent : Prop :=
  ∀ (s t : State) (v : Variant) (n : Operand) (i : Instr), decode v (.evt (0x01#8 ++ n) .none) = .ok i →
    exec i s = .next t → exec i t = .next t

/-- A forced PRG bank lasts over any transactions that neither Sync nor make or end an instance, overrides included; the
next Sync puts the formula's bank back (40_write_decoder.md R128; 70_reset_and_hazards.md R295). -/
def Obligations.ForcedBankLastsUntilSync : Prop :=
  ∀ (s t u : State) (is : List Instr) (i : Instr), s.readyAs .v163 → exec .w163ForcePrg s = .next t →
    (∀ j ∈ is, keepsWindows (roleOf j) = true ∨ roleOf j = .override ∨ roleOf j = .forcePrg) →
    execAll is t = .next u →
    u.prgWin = some 3 ∧
    ∀ w, syncs (roleOf i) = true → exec i u = .next w → w.prgWin = some (w.reg.r0 ++ w.reg.r1.extractLsb' 0 4)

/-- An override of the CHR windows, (0, 0) by scanline 239 or (1, 1) by scanline 127, lasts over any transactions that
neither Sync nor override nor make or end an instance, the quirk included; the next Sync puts (0, 1) back
(42_scanline_hook.md R191, R192, R194). -/
def Obligations.OverrideLastsUntilSync : Prop :=
  ∀ (s t u : State) (o : Instr) (b : Byte) (is : List Instr) (i : Instr),
    s.readyAs .v163 → s.reg.r1.getLsbD 7 = true →
    (o = .ev163Sl239 ∧ b = 0) ∨ (o = .ev163Sl127 ∧ b = 1) → exec o s = .next t →
    (∀ j ∈ is, keepsWindows (roleOf j) = true ∨ roleOf j = .forcePrg) → execAll is t = .next u →
    u.chrIs b b ∧ ∀ w, syncs (roleOf i) = true → exec i u = .next w → w.chrIs 0 1

/-- Saving and then restoring the result into any running instance of the same variant reproduces `reg`, `lastStrobe`,
`trigger` and `wram` exactly; the window assignment becomes what Sync computes from `reg`, and so, under the same
`FS304_FORMULAS`, is the one saved exactly when that was what Sync computes (44_persistence.md R236). -/
def Obligations.SaveThenRestoreReproducesTheSavedState : Prop :=
  ∀ (s s' u : State) (n m : Operand) (fs : List SavedField),
    s.boardReady → u.phase = .running → u.variant = s.variant →
    exec (.save n) s = .next s' → s'.out = .saved fs →
    ∃ t, exec (.restore m fs) u = .next t ∧ t.reg = s.reg ∧ t.lastStrobe = s.lastStrobe ∧ t.trigger = s.trigger ∧
      t.wram = s.wram ∧ t.sync = t ∧
      (u.fs304Formulas = s.fs304Formulas → sameWindows s.sync t ∧ (sameWindows s t ↔ s.sync = s))

/-- The boot order with a battery: after CREATE, a battery load and the power-on, a work-RAM read drives the image's byte,
on every board variant (70_reset_and_hazards.md R292; 44_persistence.md R237). That it is so from every state, `TornDown`
included, where R36 and R256 refuse any transaction, rests on CREATE completing there: the model's reading, log 11. -/
def Obligations.BatteryImageIsReadableAfterPowerOn : Prop :=
  ∀ (s : State) (v : Variant) (image : Bytes) (a : Addr), v ≠ .vTemplate → image.wf = true → image.size = 8192 →
    a.extractLsb' 13 3 = 0x3#3 →
    ∃ t, deliverAll [ev 0x07 (createOperand 0 true v), .evt 0x080000 (.image image), ev 0x02 0, .busr a] s = .next t ∧
      t.out = .drive (image.get (a.toNat - 0x6000))

/-- No port reads `lastStrobe`: two instances that differ in it alone hand out the same and stay equal but for the latch,
by every instruction except the strobe write and a board's SAVE, whose field `STB` is `lastStrobe` (10_state.md R39). -/
def Obligations.LastStrobeIsHidden : Prop :=
  ∀ (s t : State) (x : Byte) (i : Instr), roleOf i ≠ .strobe → (∀ n, i ≠ .save n) → exec i s = .next t →
    ∃ t', exec i { s with lastStrobe := x } = .next t' ∧ t'.out = t.out ∧ { t' with lastStrobe := t.lastStrobe } = t

/-- The pseudo-transactions: each expansion leaves the PRG bank it names, or inverts bit 0 of `trigger` exactly once
whatever `lastStrobe` held (30_encoding.md R102). -/
def Obligations.PseudoTransactionsDoWhatTheyName : Prop :=
  (∀ (s : State) (b : BitVec 12), s.readyAs .v164 →
    ∃ t, deliverAll [wr 0x5100 (b.extractLsb' 4 8), wr 0x5000 (0#4 ++ b.extractLsb' 0 4)] s = .next t ∧
      t.prgWin = some b) ∧
  (∀ (s : State) (b : BitVec 12) (split : Bool), s.readyAs .v163 →
    ∃ t, deliverAll [wr 0x5200 (b.extractLsb' 4 8), wr 0x5000 (BitVec.ofBool split ++ (0#3 ++ b.extractLsb' 0 4))] s =
        .next t ∧ t.prgWin = some b ∧ t.reg.r1.getLsbD 7 = split) ∧
  (∀ (s : State) (b : Byte), s.readyAs .vFS304 →
    ∃ t, deliverAll [wr 0x5300 0x05, wr 0x5000 (0#4 ++ b.extractLsb' 0 4), wr 0x5200 (0#4 ++ b.extractLsb' 4 4)] s =
        .next t ∧ t.prgWin = some (0#4 ++ b)) ∧
  (∀ s : State, s.readyAs .v163 →
    ∃ t, deliverAll [wr 0x5101 0x01, wr 0x5101 0x00] s = .next t ∧ t.trigger = s.trigger ^^^ 0x01)

/-- No transaction both requests an interrupt and changes state: the request comes from the template's scanline events
alone, and the block's state is then as before (60_exceptions.md R274, R277). -/
def Obligations.InterruptRequestChangesNothingElse : Prop :=
  ∀ (s t : State) (i : Instr), exec i s = .next t → t.out = .irqAssert →
    s.variant = .vTemplate ∧ (∃ n, i = .evtSl n) ∧ t = { s with out := .irqAssert }
end

