-- ==== Sys2Proof/Laws/Decode.lean ====
section
/-! SUPPORT. The words of the formats taken apart and put together: the fields of an encoded word are the ones it was made
from, and a word is made of its fields. -/

namespace Sys2Proof

theorem toNat_append_eq {n m : Nat} (x : BitVec n) (y : BitVec m) : (x ++ y).toNat = x.toNat * 2 ^ m + y.toNat := by
  rw [BitVec.toNat_append, ← Nat.shiftLeft_add_eq_or_of_lt y.isLt, Nat.shiftLeft_eq]

theorem extract_append_high {n m : Nat} (x : BitVec n) (y : BitVec m) : (x ++ y).extractLsb' m n = x := by
  apply BitVec.eq_of_toNat_eq
  rw [BitVec.extractLsb'_toNat, toNat_append_eq, Nat.shiftRight_eq_div_pow, Nat.mul_comm,
    Nat.mul_add_div (Nat.two_pow_pos m), Nat.div_eq_of_lt y.isLt, Nat.add_zero, Nat.mod_eq_of_lt x.isLt]

theorem extract_append_low {n m : Nat} (x : BitVec n) (y : BitVec m) : (x ++ y).extractLsb' 0 m = y := by
  apply BitVec.eq_of_toNat_eq
  rw [BitVec.extractLsb'_toNat, toNat_append_eq, Nat.shiftRight_zero, Nat.mul_comm, Nat.mul_add_mod,
    Nat.mod_eq_of_lt y.isLt]

@[simp] theorem buswAddr_append (a : Addr) (d : Byte) : buswAddr (a ++ d) = a := extract_append_high a d

@[simp] theorem buswData_append (a : Addr) (d : Byte) : buswData (a ++ d) = d := extract_append_low a d

@[simp] theorem evtCode_append (e : Byte) (n : Operand) : evtCode (e ++ n) = e := extract_append_high e n

@[simp] theorem evtOperand_append (e : Byte) (n : Operand) : evtOperand (e ++ n) = n := extract_append_low e n

@[simp] theorem busw_fields (w : BitVec 24) : buswAddr w ++ buswData w = w := by
  apply BitVec.eq_of_toNat_eq
  rw [toNat_append_eq, buswAddr, buswData, BitVec.extractLsb'_toNat, BitVec.extractLsb'_toNat]
  simp only [Nat.shiftRight_eq_div_pow]
  have := w.isLt
  omega

@[simp] theorem evt_fields (w : BitVec 24) : evtCode w ++ evtOperand w = w := by
  apply BitVec.eq_of_toNat_eq
  rw [toNat_append_eq, evtCode, evtOperand, BitVec.extractLsb'_toNat, BitVec.extractLsb'_toNat]
  simp only [Nat.shiftRight_eq_div_pow]
  have := w.isLt
  omega

@[simp] theorem decode_wr (v : Variant) (a : Addr) (d : Byte) : decode v (wr a d) = decodeBusWrite v a d := by
  simp [decode, wr]

@[simp] theorem decode_busw (v : Variant) (a : Addr) (d : Byte) :
    decode v (.busw (a ++ d)) = decodeBusWrite v a d := decode_wr v a d

@[simp] theorem decode_evt (v : Variant) (e : Byte) (n : Operand) (p : Payload) :
    decode v (.evt (e ++ n) p) = decodeEvent v e n p := by
  simp [decode]

@[simp] theorem decode_ev (v : Variant) (e : Byte) (n : Operand) : decode v (ev e n) = decodePlainEvent v e n := by
  simp [ev, decodeEvent]

/-- An address of the configuration range is in no other range. -/
theorem cfg_ranges {a : Addr} (h : a.extractLsb' 12 4 = 0x5#4) :
    isPrgAddr a = false ∧ isWramAddr a = false ∧ isCfgAddr a = true := by
  have h1 := congrArg BitVec.toNat h
  refine ⟨?_, ?_, by simp [isCfgAddr, h]⟩
  all_goals
    simp only [isPrgAddr, isWramAddr, decide_eq_false_iff_not]
    intro hc
    have h2 := congrArg BitVec.toNat hc
    simp only [BitVec.extractLsb'_toNat, Nat.shiftRight_eq_div_pow, BitVec.toNat_ofNat] at h1 h2
    omega

/-- An address of the work-RAM range is in no other range tested before it. -/
theorem wram_ranges {a : Addr} (h : a.extractLsb' 13 3 = 0x3#3) : isPrgAddr a = false ∧ isWramAddr a = true := by
  have h1 := congrArg BitVec.toNat h
  refine ⟨?_, by simp [isWramAddr, h]⟩
  simp only [isPrgAddr, decide_eq_false_iff_not]
  intro hc
  have h2 := congrArg BitVec.toNat hc
  simp only [BitVec.extractLsb'_toNat, Nat.shiftRight_eq_div_pow, BitVec.toNat_ofNat] at h1 h2
  omega

/-- A write of the configuration range goes to the variant's write decoder. -/
theorem decodeBusWrite_cfg (v : Variant) {a : Addr} (d : Byte) (h : a.extractLsb' 12 4 = 0x5#4) :
    decodeBusWrite v a d = .ok (decodeCfgWrite v a d) := by
  obtain ⟨h1, h2, h3⟩ := cfg_ranges h
  simp [decodeBusWrite, h1, h2, h3]

/-- A read of the configuration range goes to the variant's read decoder. -/
theorem decodeBusRead_cfg (v : Variant) {a : Addr} (h : a.extractLsb' 12 4 = 0x5#4) :
    decodeBusRead v a = .ok (decodeCfgRead v a) := by
  obtain ⟨h1, h2, h3⟩ := cfg_ranges h
  simp [decodeBusRead, h1, h2, h3]

/-- The operand of CREATE is decoded to what it was made from. -/
theorem decodeCreate_createOperand (upper : BitVec 13) (battery : Bool) (v : Variant) :
    decodeCreate (createOperand upper battery v) = .create upper battery v := by
  have hbit : (createOperand upper battery v).extractLsb' 2 1 = BitVec.ofBool battery := by
    apply BitVec.eq_of_toNat_eq
    rw [BitVec.extractLsb'_toNat, createOperand, toNat_append_eq, toNat_append_eq, Nat.shiftRight_eq_div_pow]
    have hc := (variantCode v).isLt
    have hb := (BitVec.ofBool battery).isLt
    omega
  have hcode : (createOperand upper battery v).extractLsb' 0 2 = variantCode v := by
    apply BitVec.eq_of_toNat_eq
    rw [BitVec.extractLsb'_toNat, createOperand, toNat_append_eq, toNat_append_eq, Nat.shiftRight_zero]
    have hc := (variantCode v).isLt
    omega
  unfold decodeCreate
  rw [hbit, hcode, createOperand, extract_append_high]
  cases battery <;> cases v <;> rfl

/-- The operand of CREATE is encoded from what it is decoded to. -/
theorem createOperand_fields (n : Operand) :
    createOperand (n.extractLsb' 3 13) (decide (n.extractLsb' 2 1 = 1#1)) (variantOfCode (n.extractLsb' 0 2)) = n := by
  have hbit : ∀ b : BitVec 1, BitVec.ofBool (decide (b = 1#1)) = b := by decide
  have hcode : ∀ c : BitVec 2, variantCode (variantOfCode c) = c := by decide
  unfold createOperand
  rw [hbit, hcode]
  apply BitVec.eq_of_toNat_eq
  rw [toNat_append_eq, toNat_append_eq, BitVec.extractLsb'_toNat, BitVec.extractLsb'_toNat, BitVec.extractLsb'_toNat]
  simp only [Nat.shiftRight_eq_div_pow]
  have := n.isLt
  omega

end Sys2Proof
end

