-- ==== Sys2Proof/Laws/Memory.lean ====
section
/-! SUPPORT. The laws of byte arrays: read after write, the canonical form, and that arrays in canonical form with equal
bytes are equal. -/

namespace Sys2Proof

open Machine

theorem Memory.wfFrom_cons {size lo k : Nat} {b : Byte} {m : Memory} :
    Memory.wfFrom size lo ((k, b) :: m) = true ↔
      lo ≤ k ∧ k < size ∧ b ≠ Config.unlistedByte ∧ Memory.wfFrom size (k + 1) m = true := by
  simp [Memory.wfFrom, and_assoc]

theorem Memory.wfFrom_mono {size lo lo' : Nat} {m : Memory} (h : Memory.wfFrom size lo m = true) (hl : lo' ≤ lo) :
    Memory.wfFrom size lo' m = true := by
  cases m with
  | nil => rfl
  | cons c m =>
    obtain ⟨k, b⟩ := c
    rw [Memory.wfFrom_cons] at h ⊢
    exact ⟨by omega, h.2⟩

theorem Memory.wf_nil (size : Nat) : Memory.wf size [] = true := rfl

theorem Memory.read_consCell_same (k : Nat) (v : Byte) (m : Memory) (hm : m.read k = Config.unlistedByte) :
    (Memory.consCell k v m).read k = v := by
  unfold Memory.consCell
  split
  · simp_all
  · simp [Memory.read]

theorem Memory.read_consCell_other {j k : Nat} (v : Byte) (m : Memory) (h : k ≠ j) :
    (Memory.consCell j v m).read k = m.read k := by
  unfold Memory.consCell
  split
  · rfl
  · simp [Memory.read, Ne.symm h]

/-- Below where a canonical array starts, every byte is unlisted. -/
theorem Memory.read_below {size lo k : Nat} {m : Memory} (h : Memory.wfFrom size lo m = true) (hk : k < lo) :
    m.read k = Config.unlistedByte := by
  induction m generalizing lo with
  | nil => rfl
  | cons c m ih =>
    obtain ⟨j, b⟩ := c
    rw [Memory.wfFrom_cons] at h
    have hne : j ≠ k := by omega
    simp only [Memory.read, hne, if_false]
    exact ih h.2.2.2 (by omega)

/-- A byte read back after a write is the byte written. -/
theorem Memory.read_write_same {size lo k : Nat} {m : Memory} (v : Byte) (h : Memory.wfFrom size lo m = true) :
    (m.write k v).read k = v := by
  induction m generalizing lo with
  | nil => exact Memory.read_consCell_same k v [] rfl
  | cons c m ih =>
    obtain ⟨j, b⟩ := c
    have h' := Memory.wfFrom_cons.mp h
    simp only [Memory.write]
    split
    · exact Memory.read_consCell_same k v _
        (Memory.read_below (lo := j) (Memory.wfFrom_cons.mpr ⟨Nat.le_refl j, h'.2⟩) ‹_›)
    · split
      · exact Memory.read_consCell_same k v _ (Memory.read_below h'.2.2.2 (by omega))
      · have hne : j ≠ k := by omega
        simp only [Memory.read, hne, if_false]
        exact ih h'.2.2.2

/-- A write leaves every other byte alone. -/
theorem Memory.read_write_other {j k : Nat} (m : Memory) (v : Byte) (h : k ≠ j) :
    (m.write j v).read k = m.read k := by
  induction m with
  | nil => exact Memory.read_consCell_other v [] h
  | cons c m ih =>
    obtain ⟨i, b⟩ := c
    simp only [Memory.write]
    split
    · exact Memory.read_consCell_other v _ h
    · split
      · next hji =>
        subst hji
        rw [Memory.read_consCell_other v _ h]
        simp [Memory.read, Ne.symm h]
      · simp only [Memory.read, ih]

theorem Memory.wfFrom_consCell {size lo k : Nat} {v : Byte} {m : Memory} (hlo : lo ≤ k) (hk : k < size)
    (h : Memory.wfFrom size (k + 1) m = true) : Memory.wfFrom size lo (Memory.consCell k v m) = true := by
  unfold Memory.consCell
  split
  · exact Memory.wfFrom_mono h (by omega)
  · exact Memory.wfFrom_cons.mpr ⟨hlo, hk, ‹_›, h⟩

theorem Memory.wfFrom_write {size lo k : Nat} {m : Memory} (v : Byte) (h : Memory.wfFrom size lo m = true)
    (hlo : lo ≤ k) (hk : k < size) : Memory.wfFrom size lo (m.write k v) = true := by
  induction m generalizing lo with
  | nil => exact Memory.wfFrom_consCell hlo hk rfl
  | cons c m ih =>
    obtain ⟨j, b⟩ := c
    have h' := Memory.wfFrom_cons.mp h
    simp only [Memory.write]
    split
    · exact Memory.wfFrom_consCell hlo hk (Memory.wfFrom_cons.mpr ⟨by omega, h'.2⟩)
    · split
      · next hkj => exact Memory.wfFrom_consCell hlo hk (hkj ▸ h'.2.2.2)
      · exact Memory.wfFrom_cons.mpr ⟨h'.1, h'.2.1, h'.2.2.1, ih h'.2.2.2 (by omega)⟩

/-- A write below the size keeps the canonical form. -/
theorem Memory.wf_write {size k : Nat} {m : Memory} (v : Byte) (h : Memory.wf size m = true) (hk : k < size) :
    Memory.wf size (m.write k v) = true :=
  Memory.wfFrom_write v h (Nat.zero_le k) hk

theorem Memory.wfFrom_ofListFrom {size k : Nat} (bs : List Byte) (h : k + bs.length ≤ size) :
    Memory.wfFrom size k (Memory.ofListFrom k bs) = true := by
  induction bs generalizing k with
  | nil => rfl
  | cons b bs ih =>
    simp only [List.length_cons] at h
    exact Memory.wfFrom_consCell (Nat.le_refl k) (by omega) (ih (by omega))

/-- The byte string of a list of bytes is in canonical form. -/
theorem Bytes.wf_ofList (bs : List Byte) : (Bytes.ofList bs).wf = true :=
  Memory.wfFrom_ofListFrom bs (by simp [Bytes.ofList])

@[simp] theorem Bytes.size_ofList (bs : List Byte) : (Bytes.ofList bs).size = bs.length := rfl

theorem Memory.read_ofListFrom (bs : List Byte) (k i : Nat) :
    (Memory.ofListFrom k bs).read (k + i) = (bs[i]?).getD Config.unlistedByte := by
  induction bs generalizing k i with
  | nil => rfl
  | cons b bs ih =>
    have hwf : Memory.wfFrom (k + 1 + bs.length) (k + 1) (Memory.ofListFrom (k + 1) bs) = true :=
      Memory.wfFrom_ofListFrom bs (Nat.le_refl _)
    cases i with
    | zero => exact Memory.read_consCell_same k b _ (Memory.read_below hwf (by omega))
    | succ i =>
      have h := ih (k + 1) i
      rw [show k + (i + 1) = k + 1 + i by omega]
      simp only [Memory.ofListFrom]
      rw [Memory.read_consCell_other b _ (by omega), h]
      simp

/-- Byte `i` of a byte string made from a list is the list's byte `i`. -/
theorem Bytes.get_ofList (bs : List Byte) (i : Nat) :
    (Bytes.ofList bs).get i = (bs[i]?).getD Config.unlistedByte := by
  have h := Memory.read_ofListFrom bs 0 i
  rw [Nat.zero_add] at h
  exact h

/-- Canonical arrays with equal bytes are equal. -/
theorem Memory.ext_of_wfFrom {size lo : Nat} {m m' : Memory} (h : Memory.wfFrom size lo m = true)
    (h' : Memory.wfFrom size lo m' = true) (he : ∀ k, m.read k = m'.read k) : m = m' := by
  induction m generalizing lo m' with
  | nil =>
    cases m' with
    | nil => rfl
    | cons c m' =>
      obtain ⟨k, b⟩ := c
      have hk := he k
      simp only [Memory.read, if_true] at hk
      exact absurd hk.symm (Memory.wfFrom_cons.mp h').2.2.1
  | cons c m ih =>
    obtain ⟨j, a⟩ := c
    have hm := Memory.wfFrom_cons.mp h
    cases m' with
    | nil =>
      have hj := he j
      simp only [Memory.read, if_true] at hj
      exact absurd hj hm.2.2.1
    | cons c' m' =>
      obtain ⟨k, b⟩ := c'
      have hm' := Memory.wfFrom_cons.mp h'
      have hjk : j = k := by
        rcases Nat.lt_trichotomy j k with hlt | heq | hgt
        · have hj := he j
          rw [Memory.read_below (lo := k) (Memory.wfFrom_cons.mpr ⟨Nat.le_refl k, hm'.2⟩) hlt] at hj
          simp only [Memory.read, if_true] at hj
          exact absurd hj hm.2.2.1
        · exact heq
        · have hk := he k
          rw [Memory.read_below (lo := j) (Memory.wfFrom_cons.mpr ⟨Nat.le_refl j, hm.2⟩) hgt] at hk
          simp only [Memory.read, if_true] at hk
          exact absurd hk.symm hm'.2.2.1
      subst hjk
      have hab : a = b := by
        have hj := he j
        simpa only [Memory.read, if_true] using hj
      subst hab
      have htail : m = m' := by
        refine ih hm.2.2.2 hm'.2.2.2 fun k => ?_
        by_cases hk : k < j + 1
        · rw [Memory.read_below hm.2.2.2 hk, Memory.read_below hm'.2.2.2 hk]
        · have hkj := he k
          have hne : j ≠ k := by omega
          simpa only [Memory.read, hne, if_false] using hkj
      rw [htail]

namespace Machine

@[simp] theorem RegFile.toBytes_size (f : RegFile) : f.toBytes.size = 8 := rfl

/-- The field `REGS` of a register file gives the register file back. -/
@[simp] theorem RegFile.ofBytes_toBytes (f : RegFile) : RegFile.ofBytes f.toBytes = f := by
  cases f
  simp [RegFile.ofBytes, RegFile.toBytes, Bytes.get_ofList]

theorem RegFile.toBytes_wf (f : RegFile) : f.toBytes.wf = true := Bytes.wf_ofList _

/-- Reading a register after writing it. -/
@[simp] theorem RegFile.get_set_same (f : RegFile) (v : Byte) (r : RegName) : (f.set v r).get r = v := by
  cases r <;> rfl

/-- Writing a register leaves every other one alone. -/
theorem RegFile.get_set_other (f : RegFile) (v : Byte) {r q : RegName} (h : q ≠ r) : (f.set v r).get q = f.get q := by
  cases r <;> cases q <;> first | rfl | exact absurd rfl h

end Machine

end Sys2Proof
end

