-- ==== Sys2Proof/Laws/State.lean ====
section
/-! SUPPORT. One lemma per field per update of the state, each true by definition, so that no later proof unfolds a record
update. -/

namespace Sys2Proof.Machine

variable (s : State)

@[simp] theorem State.setReg_variant (i : RegName) (v : Byte) : (s.setReg i v).variant = s.variant := rfl
@[simp] theorem State.setReg_battery (i : RegName) (v : Byte) : (s.setReg i v).battery = s.battery := rfl
@[simp] theorem State.setReg_reg (i : RegName) (v : Byte) : (s.setReg i v).reg = s.reg.set v i := rfl
@[simp] theorem State.setReg_lastStrobe (i : RegName) (v : Byte) : (s.setReg i v).lastStrobe = s.lastStrobe := rfl
@[simp] theorem State.setReg_trigger (i : RegName) (v : Byte) : (s.setReg i v).trigger = s.trigger := rfl
@[simp] theorem State.setReg_prgWin (i : RegName) (v : Byte) : (s.setReg i v).prgWin = s.prgWin := rfl
@[simp] theorem State.setReg_chrLo (i : RegName) (v : Byte) : (s.setReg i v).chrLo = s.chrLo := rfl
@[simp] theorem State.setReg_chrHi (i : RegName) (v : Byte) : (s.setReg i v).chrHi = s.chrHi := rfl
@[simp] theorem State.setReg_wramWin (i : RegName) (v : Byte) : (s.setReg i v).wramWin = s.wramWin := rfl
@[simp] theorem State.setReg_wram (i : RegName) (v : Byte) : (s.setReg i v).wram = s.wram := rfl
@[simp] theorem State.setReg_phase (i : RegName) (v : Byte) : (s.setReg i v).phase = s.phase := rfl
@[simp] theorem State.setReg_readDefault (i : RegName) (v : Byte) : (s.setReg i v).readDefault = s.readDefault := rfl
@[simp] theorem State.setReg_lastStrobePower163 (i : RegName) (v : Byte) : (s.setReg i v).lastStrobePower163 = s.lastStrobePower163 := rfl
@[simp] theorem State.setReg_fs304Formulas (i : RegName) (v : Byte) : (s.setReg i v).fs304Formulas = s.fs304Formulas := rfl
@[simp] theorem State.setReg_pending (i : RegName) (v : Byte) : (s.setReg i v).pending = s.pending := rfl
@[simp] theorem State.setReg_out (i : RegName) (v : Byte) : (s.setReg i v).out = s.out := rfl
@[simp] theorem State.setReg_draws (i : RegName) (v : Byte) : (s.setReg i v).draws = s.draws := rfl

@[simp] theorem State.setRegs_variant (f : RegFile) : (s.setRegs f).variant = s.variant := rfl
@[simp] theorem State.setRegs_battery (f : RegFile) : (s.setRegs f).battery = s.battery := rfl
@[simp] theorem State.setRegs_reg (f : RegFile) : (s.setRegs f).reg = f := rfl
@[simp] theorem State.setRegs_lastStrobe (f : RegFile) : (s.setRegs f).lastStrobe = s.lastStrobe := rfl
@[simp] theorem State.setRegs_trigger (f : RegFile) : (s.setRegs f).trigger = s.trigger := rfl
@[simp] theorem State.setRegs_prgWin (f : RegFile) : (s.setRegs f).prgWin = s.prgWin := rfl
@[simp] theorem State.setRegs_chrLo (f : RegFile) : (s.setRegs f).chrLo = s.chrLo := rfl
@[simp] theorem State.setRegs_chrHi (f : RegFile) : (s.setRegs f).chrHi = s.chrHi := rfl
@[simp] theorem State.setRegs_wramWin (f : RegFile) : (s.setRegs f).wramWin = s.wramWin := rfl
@[simp] theorem State.setRegs_wram (f : RegFile) : (s.setRegs f).wram = s.wram := rfl
@[simp] theorem State.setRegs_phase (f : RegFile) : (s.setRegs f).phase = s.phase := rfl
@[simp] theorem State.setRegs_readDefault (f : RegFile) : (s.setRegs f).readDefault = s.readDefault := rfl
@[simp] theorem State.setRegs_lastStrobePower163 (f : RegFile) : (s.setRegs f).lastStrobePower163 = s.lastStrobePower163 := rfl
@[simp] theorem State.setRegs_fs304Formulas (f : RegFile) : (s.setRegs f).fs304Formulas = s.fs304Formulas := rfl
@[simp] theorem State.setRegs_pending (f : RegFile) : (s.setRegs f).pending = s.pending := rfl
@[simp] theorem State.setRegs_out (f : RegFile) : (s.setRegs f).out = s.out := rfl
@[simp] theorem State.setRegs_draws (f : RegFile) : (s.setRegs f).draws = s.draws := rfl

@[simp] theorem State.setLatch_variant (l t : Byte) : (s.setLatch l t).variant = s.variant := rfl
@[simp] theorem State.setLatch_battery (l t : Byte) : (s.setLatch l t).battery = s.battery := rfl
@[simp] theorem State.setLatch_reg (l t : Byte) : (s.setLatch l t).reg = s.reg := rfl
@[simp] theorem State.setLatch_lastStrobe (l t : Byte) : (s.setLatch l t).lastStrobe = l := rfl
@[simp] theorem State.setLatch_trigger (l t : Byte) : (s.setLatch l t).trigger = t := rfl
@[simp] theorem State.setLatch_prgWin (l t : Byte) : (s.setLatch l t).prgWin = s.prgWin := rfl
@[simp] theorem State.setLatch_chrLo (l t : Byte) : (s.setLatch l t).chrLo = s.chrLo := rfl
@[simp] theorem State.setLatch_chrHi (l t : Byte) : (s.setLatch l t).chrHi = s.chrHi := rfl
@[simp] theorem State.setLatch_wramWin (l t : Byte) : (s.setLatch l t).wramWin = s.wramWin := rfl
@[simp] theorem State.setLatch_wram (l t : Byte) : (s.setLatch l t).wram = s.wram := rfl
@[simp] theorem State.setLatch_phase (l t : Byte) : (s.setLatch l t).phase = s.phase := rfl
@[simp] theorem State.setLatch_readDefault (l t : Byte) : (s.setLatch l t).readDefault = s.readDefault := rfl
@[simp] theorem State.setLatch_lastStrobePower163 (l t : Byte) : (s.setLatch l t).lastStrobePower163 = s.lastStrobePower163 := rfl
@[simp] theorem State.setLatch_fs304Formulas (l t : Byte) : (s.setLatch l t).fs304Formulas = s.fs304Formulas := rfl
@[simp] theorem State.setLatch_pending (l t : Byte) : (s.setLatch l t).pending = s.pending := rfl
@[simp] theorem State.setLatch_out (l t : Byte) : (s.setLatch l t).out = s.out := rfl
@[simp] theorem State.setLatch_draws (l t : Byte) : (s.setLatch l t).draws = s.draws := rfl

@[simp] theorem State.pushWindows_variant (b : BitVec 12) : (s.pushWindows b).variant = s.variant := rfl
@[simp] theorem State.pushWindows_battery (b : BitVec 12) : (s.pushWindows b).battery = s.battery := rfl
@[simp] theorem State.pushWindows_reg (b : BitVec 12) : (s.pushWindows b).reg = s.reg := rfl
@[simp] theorem State.pushWindows_lastStrobe (b : BitVec 12) : (s.pushWindows b).lastStrobe = s.lastStrobe := rfl
@[simp] theorem State.pushWindows_trigger (b : BitVec 12) : (s.pushWindows b).trigger = s.trigger := rfl
@[simp] theorem State.pushWindows_prgWin (b : BitVec 12) : (s.pushWindows b).prgWin = some b := rfl
@[simp] theorem State.pushWindows_chrLo (b : BitVec 12) : (s.pushWindows b).chrLo = some 0 := rfl
@[simp] theorem State.pushWindows_chrHi (b : BitVec 12) : (s.pushWindows b).chrHi = some 1 := rfl
@[simp] theorem State.pushWindows_wramWin (b : BitVec 12) : (s.pushWindows b).wramWin = true := rfl
@[simp] theorem State.pushWindows_wram (b : BitVec 12) : (s.pushWindows b).wram = s.wram := rfl
@[simp] theorem State.pushWindows_phase (b : BitVec 12) : (s.pushWindows b).phase = s.phase := rfl
@[simp] theorem State.pushWindows_readDefault (b : BitVec 12) : (s.pushWindows b).readDefault = s.readDefault := rfl
@[simp] theorem State.pushWindows_lastStrobePower163 (b : BitVec 12) : (s.pushWindows b).lastStrobePower163 = s.lastStrobePower163 := rfl
@[simp] theorem State.pushWindows_fs304Formulas (b : BitVec 12) : (s.pushWindows b).fs304Formulas = s.fs304Formulas := rfl
@[simp] theorem State.pushWindows_pending (b : BitVec 12) : (s.pushWindows b).pending = s.pending := rfl
@[simp] theorem State.pushWindows_out (b : BitVec 12) : (s.pushWindows b).out = s.out := rfl
@[simp] theorem State.pushWindows_draws (b : BitVec 12) : (s.pushWindows b).draws = s.draws := rfl

@[simp] theorem State.forcePrg_variant (b : BitVec 12) : (s.forcePrg b).variant = s.variant := rfl
@[simp] theorem State.forcePrg_battery (b : BitVec 12) : (s.forcePrg b).battery = s.battery := rfl
@[simp] theorem State.forcePrg_reg (b : BitVec 12) : (s.forcePrg b).reg = s.reg := rfl
@[simp] theorem State.forcePrg_lastStrobe (b : BitVec 12) : (s.forcePrg b).lastStrobe = s.lastStrobe := rfl
@[simp] theorem State.forcePrg_trigger (b : BitVec 12) : (s.forcePrg b).trigger = s.trigger := rfl
@[simp] theorem State.forcePrg_prgWin (b : BitVec 12) : (s.forcePrg b).prgWin = some b := rfl
@[simp] theorem State.forcePrg_chrLo (b : BitVec 12) : (s.forcePrg b).chrLo = s.chrLo := rfl
@[simp] theorem State.forcePrg_chrHi (b : BitVec 12) : (s.forcePrg b).chrHi = s.chrHi := rfl
@[simp] theorem State.forcePrg_wramWin (b : BitVec 12) : (s.forcePrg b).wramWin = s.wramWin := rfl
@[simp] theorem State.forcePrg_wram (b : BitVec 12) : (s.forcePrg b).wram = s.wram := rfl
@[simp] theorem State.forcePrg_phase (b : BitVec 12) : (s.forcePrg b).phase = s.phase := rfl
@[simp] theorem State.forcePrg_readDefault (b : BitVec 12) : (s.forcePrg b).readDefault = s.readDefault := rfl
@[simp] theorem State.forcePrg_lastStrobePower163 (b : BitVec 12) : (s.forcePrg b).lastStrobePower163 = s.lastStrobePower163 := rfl
@[simp] theorem State.forcePrg_fs304Formulas (b : BitVec 12) : (s.forcePrg b).fs304Formulas = s.fs304Formulas := rfl
@[simp] theorem State.forcePrg_pending (b : BitVec 12) : (s.forcePrg b).pending = s.pending := rfl
@[simp] theorem State.forcePrg_out (b : BitVec 12) : (s.forcePrg b).out = s.out := rfl
@[simp] theorem State.forcePrg_draws (b : BitVec 12) : (s.forcePrg b).draws = s.draws := rfl

@[simp] theorem State.overrideChr_variant (b : Byte) : (s.overrideChr b).variant = s.variant := rfl
@[simp] theorem State.overrideChr_battery (b : Byte) : (s.overrideChr b).battery = s.battery := rfl
@[simp] theorem State.overrideChr_reg (b : Byte) : (s.overrideChr b).reg = s.reg := rfl
@[simp] theorem State.overrideChr_lastStrobe (b : Byte) : (s.overrideChr b).lastStrobe = s.lastStrobe := rfl
@[simp] theorem State.overrideChr_trigger (b : Byte) : (s.overrideChr b).trigger = s.trigger := rfl
@[simp] theorem State.overrideChr_prgWin (b : Byte) : (s.overrideChr b).prgWin = s.prgWin := rfl
@[simp] theorem State.overrideChr_chrLo (b : Byte) : (s.overrideChr b).chrLo = some b := rfl
@[simp] theorem State.overrideChr_chrHi (b : Byte) : (s.overrideChr b).chrHi = some b := rfl
@[simp] theorem State.overrideChr_wramWin (b : Byte) : (s.overrideChr b).wramWin = s.wramWin := rfl
@[simp] theorem State.overrideChr_wram (b : Byte) : (s.overrideChr b).wram = s.wram := rfl
@[simp] theorem State.overrideChr_phase (b : Byte) : (s.overrideChr b).phase = s.phase := rfl
@[simp] theorem State.overrideChr_readDefault (b : Byte) : (s.overrideChr b).readDefault = s.readDefault := rfl
@[simp] theorem State.overrideChr_lastStrobePower163 (b : Byte) : (s.overrideChr b).lastStrobePower163 = s.lastStrobePower163 := rfl
@[simp] theorem State.overrideChr_fs304Formulas (b : Byte) : (s.overrideChr b).fs304Formulas = s.fs304Formulas := rfl
@[simp] theorem State.overrideChr_pending (b : Byte) : (s.overrideChr b).pending = s.pending := rfl
@[simp] theorem State.overrideChr_out (b : Byte) : (s.overrideChr b).out = s.out := rfl
@[simp] theorem State.overrideChr_draws (b : Byte) : (s.overrideChr b).draws = s.draws := rfl

@[simp] theorem State.clearWindows_variant : s.clearWindows.variant = s.variant := rfl
@[simp] theorem State.clearWindows_battery : s.clearWindows.battery = s.battery := rfl
@[simp] theorem State.clearWindows_reg : s.clearWindows.reg = s.reg := rfl
@[simp] theorem State.clearWindows_lastStrobe : s.clearWindows.lastStrobe = s.lastStrobe := rfl
@[simp] theorem State.clearWindows_trigger : s.clearWindows.trigger = s.trigger := rfl
@[simp] theorem State.clearWindows_prgWin : s.clearWindows.prgWin = none := rfl
@[simp] theorem State.clearWindows_chrLo : s.clearWindows.chrLo = none := rfl
@[simp] theorem State.clearWindows_chrHi : s.clearWindows.chrHi = none := rfl
@[simp] theorem State.clearWindows_wramWin : s.clearWindows.wramWin = false := rfl
@[simp] theorem State.clearWindows_wram : s.clearWindows.wram = s.wram := rfl
@[simp] theorem State.clearWindows_phase : s.clearWindows.phase = s.phase := rfl
@[simp] theorem State.clearWindows_readDefault : s.clearWindows.readDefault = s.readDefault := rfl
@[simp] theorem State.clearWindows_lastStrobePower163 : s.clearWindows.lastStrobePower163 = s.lastStrobePower163 := rfl
@[simp] theorem State.clearWindows_fs304Formulas : s.clearWindows.fs304Formulas = s.fs304Formulas := rfl
@[simp] theorem State.clearWindows_pending : s.clearWindows.pending = s.pending := rfl
@[simp] theorem State.clearWindows_out : s.clearWindows.out = s.out := rfl
@[simp] theorem State.clearWindows_draws : s.clearWindows.draws = s.draws := rfl

@[simp] theorem State.setWram_variant (m : Memory) : (s.setWram m).variant = s.variant := rfl
@[simp] theorem State.setWram_battery (m : Memory) : (s.setWram m).battery = s.battery := rfl
@[simp] theorem State.setWram_reg (m : Memory) : (s.setWram m).reg = s.reg := rfl
@[simp] theorem State.setWram_lastStrobe (m : Memory) : (s.setWram m).lastStrobe = s.lastStrobe := rfl
@[simp] theorem State.setWram_trigger (m : Memory) : (s.setWram m).trigger = s.trigger := rfl
@[simp] theorem State.setWram_prgWin (m : Memory) : (s.setWram m).prgWin = s.prgWin := rfl
@[simp] theorem State.setWram_chrLo (m : Memory) : (s.setWram m).chrLo = s.chrLo := rfl
@[simp] theorem State.setWram_chrHi (m : Memory) : (s.setWram m).chrHi = s.chrHi := rfl
@[simp] theorem State.setWram_wramWin (m : Memory) : (s.setWram m).wramWin = s.wramWin := rfl
@[simp] theorem State.setWram_wram (m : Memory) : (s.setWram m).wram = m := rfl
@[simp] theorem State.setWram_phase (m : Memory) : (s.setWram m).phase = s.phase := rfl
@[simp] theorem State.setWram_readDefault (m : Memory) : (s.setWram m).readDefault = s.readDefault := rfl
@[simp] theorem State.setWram_lastStrobePower163 (m : Memory) : (s.setWram m).lastStrobePower163 = s.lastStrobePower163 := rfl
@[simp] theorem State.setWram_fs304Formulas (m : Memory) : (s.setWram m).fs304Formulas = s.fs304Formulas := rfl
@[simp] theorem State.setWram_pending (m : Memory) : (s.setWram m).pending = s.pending := rfl
@[simp] theorem State.setWram_out (m : Memory) : (s.setWram m).out = s.out := rfl
@[simp] theorem State.setWram_draws (m : Memory) : (s.setWram m).draws = s.draws := rfl

@[simp] theorem State.setPhase_variant (p : Phase) : (s.setPhase p).variant = s.variant := rfl
@[simp] theorem State.setPhase_battery (p : Phase) : (s.setPhase p).battery = s.battery := rfl
@[simp] theorem State.setPhase_reg (p : Phase) : (s.setPhase p).reg = s.reg := rfl
@[simp] theorem State.setPhase_lastStrobe (p : Phase) : (s.setPhase p).lastStrobe = s.lastStrobe := rfl
@[simp] theorem State.setPhase_trigger (p : Phase) : (s.setPhase p).trigger = s.trigger := rfl
@[simp] theorem State.setPhase_prgWin (p : Phase) : (s.setPhase p).prgWin = s.prgWin := rfl
@[simp] theorem State.setPhase_chrLo (p : Phase) : (s.setPhase p).chrLo = s.chrLo := rfl
@[simp] theorem State.setPhase_chrHi (p : Phase) : (s.setPhase p).chrHi = s.chrHi := rfl
@[simp] theorem State.setPhase_wramWin (p : Phase) : (s.setPhase p).wramWin = s.wramWin := rfl
@[simp] theorem State.setPhase_wram (p : Phase) : (s.setPhase p).wram = s.wram := rfl
@[simp] theorem State.setPhase_phase (p : Phase) : (s.setPhase p).phase = p := rfl
@[simp] theorem State.setPhase_readDefault (p : Phase) : (s.setPhase p).readDefault = s.readDefault := rfl
@[simp] theorem State.setPhase_lastStrobePower163 (p : Phase) : (s.setPhase p).lastStrobePower163 = s.lastStrobePower163 := rfl
@[simp] theorem State.setPhase_fs304Formulas (p : Phase) : (s.setPhase p).fs304Formulas = s.fs304Formulas := rfl
@[simp] theorem State.setPhase_pending (p : Phase) : (s.setPhase p).pending = s.pending := rfl
@[simp] theorem State.setPhase_out (p : Phase) : (s.setPhase p).out = s.out := rfl
@[simp] theorem State.setPhase_draws (p : Phase) : (s.setPhase p).draws = s.draws := rfl

@[simp] theorem State.emit_variant (o : Output) : (s.emit o).variant = s.variant := rfl
@[simp] theorem State.emit_battery (o : Output) : (s.emit o).battery = s.battery := rfl
@[simp] theorem State.emit_reg (o : Output) : (s.emit o).reg = s.reg := rfl
@[simp] theorem State.emit_lastStrobe (o : Output) : (s.emit o).lastStrobe = s.lastStrobe := rfl
@[simp] theorem State.emit_trigger (o : Output) : (s.emit o).trigger = s.trigger := rfl
@[simp] theorem State.emit_prgWin (o : Output) : (s.emit o).prgWin = s.prgWin := rfl
@[simp] theorem State.emit_chrLo (o : Output) : (s.emit o).chrLo = s.chrLo := rfl
@[simp] theorem State.emit_chrHi (o : Output) : (s.emit o).chrHi = s.chrHi := rfl
@[simp] theorem State.emit_wramWin (o : Output) : (s.emit o).wramWin = s.wramWin := rfl
@[simp] theorem State.emit_wram (o : Output) : (s.emit o).wram = s.wram := rfl
@[simp] theorem State.emit_phase (o : Output) : (s.emit o).phase = s.phase := rfl
@[simp] theorem State.emit_readDefault (o : Output) : (s.emit o).readDefault = s.readDefault := rfl
@[simp] theorem State.emit_lastStrobePower163 (o : Output) : (s.emit o).lastStrobePower163 = s.lastStrobePower163 := rfl
@[simp] theorem State.emit_fs304Formulas (o : Output) : (s.emit o).fs304Formulas = s.fs304Formulas := rfl
@[simp] theorem State.emit_pending (o : Output) : (s.emit o).pending = s.pending := rfl
@[simp] theorem State.emit_out (o : Output) : (s.emit o).out = o := rfl
@[simp] theorem State.emit_draws (o : Output) : (s.emit o).draws = s.draws := rfl

@[simp] theorem State.quiet_variant : s.quiet.variant = s.variant := rfl
@[simp] theorem State.quiet_battery : s.quiet.battery = s.battery := rfl
@[simp] theorem State.quiet_reg : s.quiet.reg = s.reg := rfl
@[simp] theorem State.quiet_lastStrobe : s.quiet.lastStrobe = s.lastStrobe := rfl
@[simp] theorem State.quiet_trigger : s.quiet.trigger = s.trigger := rfl
@[simp] theorem State.quiet_prgWin : s.quiet.prgWin = s.prgWin := rfl
@[simp] theorem State.quiet_chrLo : s.quiet.chrLo = s.chrLo := rfl
@[simp] theorem State.quiet_chrHi : s.quiet.chrHi = s.chrHi := rfl
@[simp] theorem State.quiet_wramWin : s.quiet.wramWin = s.wramWin := rfl
@[simp] theorem State.quiet_wram : s.quiet.wram = s.wram := rfl
@[simp] theorem State.quiet_phase : s.quiet.phase = s.phase := rfl
@[simp] theorem State.quiet_readDefault : s.quiet.readDefault = s.readDefault := rfl
@[simp] theorem State.quiet_lastStrobePower163 : s.quiet.lastStrobePower163 = s.lastStrobePower163 := rfl
@[simp] theorem State.quiet_fs304Formulas : s.quiet.fs304Formulas = s.fs304Formulas := rfl
@[simp] theorem State.quiet_pending : s.quiet.pending = s.pending := rfl
@[simp] theorem State.quiet_out : s.quiet.out = .none := rfl
@[simp] theorem State.quiet_draws : s.quiet.draws = s.draws := rfl

@[simp] theorem State.drive_variant (v : Byte) : (s.drive v).variant = s.variant := rfl
@[simp] theorem State.drive_battery (v : Byte) : (s.drive v).battery = s.battery := rfl
@[simp] theorem State.drive_reg (v : Byte) : (s.drive v).reg = s.reg := rfl
@[simp] theorem State.drive_lastStrobe (v : Byte) : (s.drive v).lastStrobe = s.lastStrobe := rfl
@[simp] theorem State.drive_trigger (v : Byte) : (s.drive v).trigger = s.trigger := rfl
@[simp] theorem State.drive_prgWin (v : Byte) : (s.drive v).prgWin = s.prgWin := rfl
@[simp] theorem State.drive_chrLo (v : Byte) : (s.drive v).chrLo = s.chrLo := rfl
@[simp] theorem State.drive_chrHi (v : Byte) : (s.drive v).chrHi = s.chrHi := rfl
@[simp] theorem State.drive_wramWin (v : Byte) : (s.drive v).wramWin = s.wramWin := rfl
@[simp] theorem State.drive_wram (v : Byte) : (s.drive v).wram = s.wram := rfl
@[simp] theorem State.drive_phase (v : Byte) : (s.drive v).phase = s.phase := rfl
@[simp] theorem State.drive_readDefault (v : Byte) : (s.drive v).readDefault = s.readDefault := rfl
@[simp] theorem State.drive_lastStrobePower163 (v : Byte) : (s.drive v).lastStrobePower163 = s.lastStrobePower163 := rfl
@[simp] theorem State.drive_fs304Formulas (v : Byte) : (s.drive v).fs304Formulas = s.fs304Formulas := rfl
@[simp] theorem State.drive_pending (v : Byte) : (s.drive v).pending = s.pending := rfl
@[simp] theorem State.drive_out (v : Byte) : (s.drive v).out = .drive v := rfl
@[simp] theorem State.drive_draws (v : Byte) : (s.drive v).draws = s.draws := rfl

@[simp] theorem State.assertIrq_variant : s.assertIrq.variant = s.variant := rfl
@[simp] theorem State.assertIrq_battery : s.assertIrq.battery = s.battery := rfl
@[simp] theorem State.assertIrq_reg : s.assertIrq.reg = s.reg := rfl
@[simp] theorem State.assertIrq_lastStrobe : s.assertIrq.lastStrobe = s.lastStrobe := rfl
@[simp] theorem State.assertIrq_trigger : s.assertIrq.trigger = s.trigger := rfl
@[simp] theorem State.assertIrq_prgWin : s.assertIrq.prgWin = s.prgWin := rfl
@[simp] theorem State.assertIrq_chrLo : s.assertIrq.chrLo = s.chrLo := rfl
@[simp] theorem State.assertIrq_chrHi : s.assertIrq.chrHi = s.chrHi := rfl
@[simp] theorem State.assertIrq_wramWin : s.assertIrq.wramWin = s.wramWin := rfl
@[simp] theorem State.assertIrq_wram : s.assertIrq.wram = s.wram := rfl
@[simp] theorem State.assertIrq_phase : s.assertIrq.phase = s.phase := rfl
@[simp] theorem State.assertIrq_readDefault : s.assertIrq.readDefault = s.readDefault := rfl
@[simp] theorem State.assertIrq_lastStrobePower163 : s.assertIrq.lastStrobePower163 = s.lastStrobePower163 := rfl
@[simp] theorem State.assertIrq_fs304Formulas : s.assertIrq.fs304Formulas = s.fs304Formulas := rfl
@[simp] theorem State.assertIrq_pending : s.assertIrq.pending = s.pending := rfl
@[simp] theorem State.assertIrq_out : s.assertIrq.out = .irqAssert := rfl
@[simp] theorem State.assertIrq_draws : s.assertIrq.draws = s.draws := rfl

@[simp] theorem State.undriven_variant : s.undriven.variant = s.variant := rfl
@[simp] theorem State.undriven_battery : s.undriven.battery = s.battery := rfl
@[simp] theorem State.undriven_reg : s.undriven.reg = s.reg := rfl
@[simp] theorem State.undriven_lastStrobe : s.undriven.lastStrobe = s.lastStrobe := rfl
@[simp] theorem State.undriven_trigger : s.undriven.trigger = s.trigger := rfl
@[simp] theorem State.undriven_prgWin : s.undriven.prgWin = s.prgWin := rfl
@[simp] theorem State.undriven_chrLo : s.undriven.chrLo = s.chrLo := rfl
@[simp] theorem State.undriven_chrHi : s.undriven.chrHi = s.chrHi := rfl
@[simp] theorem State.undriven_wramWin : s.undriven.wramWin = s.wramWin := rfl
@[simp] theorem State.undriven_wram : s.undriven.wram = s.wram := rfl
@[simp] theorem State.undriven_phase : s.undriven.phase = s.phase := rfl
@[simp] theorem State.undriven_readDefault : s.undriven.readDefault = s.readDefault := rfl
@[simp] theorem State.undriven_lastStrobePower163 : s.undriven.lastStrobePower163 = s.lastStrobePower163 := rfl
@[simp] theorem State.undriven_fs304Formulas : s.undriven.fs304Formulas = s.fs304Formulas := rfl
@[simp] theorem State.undriven_pending : s.undriven.pending = s.pending := rfl
@[simp] theorem State.undriven_out : s.undriven.out = .undriven (Config.busDraw s.draws) := rfl
@[simp] theorem State.undriven_draws : s.undriven.draws = s.draws + 1 := rfl

@[simp] theorem State.syncAB_variant : s.syncAB.variant = s.variant := rfl
@[simp] theorem State.syncAB_battery : s.syncAB.battery = s.battery := rfl
@[simp] theorem State.syncAB_reg : s.syncAB.reg = s.reg := rfl
@[simp] theorem State.syncAB_lastStrobe : s.syncAB.lastStrobe = s.lastStrobe := rfl
@[simp] theorem State.syncAB_trigger : s.syncAB.trigger = s.trigger := rfl
@[simp] theorem State.syncAB_prgWin : s.syncAB.prgWin = some (formulaA s.reg) := rfl
@[simp] theorem State.syncAB_chrLo : s.syncAB.chrLo = some 0 := rfl
@[simp] theorem State.syncAB_chrHi : s.syncAB.chrHi = some 1 := rfl
@[simp] theorem State.syncAB_wramWin : s.syncAB.wramWin = true := rfl
@[simp] theorem State.syncAB_wram : s.syncAB.wram = s.wram := rfl
@[simp] theorem State.syncAB_phase : s.syncAB.phase = s.phase := rfl
@[simp] theorem State.syncAB_readDefault : s.syncAB.readDefault = s.readDefault := rfl
@[simp] theorem State.syncAB_lastStrobePower163 : s.syncAB.lastStrobePower163 = s.lastStrobePower163 := rfl
@[simp] theorem State.syncAB_fs304Formulas : s.syncAB.fs304Formulas = s.fs304Formulas := rfl
@[simp] theorem State.syncAB_pending : s.syncAB.pending = s.pending := rfl
@[simp] theorem State.syncAB_out : s.syncAB.out = s.out := rfl
@[simp] theorem State.syncAB_draws : s.syncAB.draws = s.draws := rfl

@[simp] theorem State.syncC_variant : s.syncC.variant = s.variant := rfl
@[simp] theorem State.syncC_battery : s.syncC.battery = s.battery := rfl
@[simp] theorem State.syncC_reg : s.syncC.reg = s.reg := rfl
@[simp] theorem State.syncC_lastStrobe : s.syncC.lastStrobe = s.lastStrobe := rfl
@[simp] theorem State.syncC_trigger : s.syncC.trigger = s.trigger := rfl
@[simp] theorem State.syncC_prgWin : s.syncC.prgWin = some (formulaC s.fs304Formulas s.reg) := rfl
@[simp] theorem State.syncC_chrLo : s.syncC.chrLo = some 0 := rfl
@[simp] theorem State.syncC_chrHi : s.syncC.chrHi = some 1 := rfl
@[simp] theorem State.syncC_wramWin : s.syncC.wramWin = true := rfl
@[simp] theorem State.syncC_wram : s.syncC.wram = s.wram := rfl
@[simp] theorem State.syncC_phase : s.syncC.phase = s.phase := rfl
@[simp] theorem State.syncC_readDefault : s.syncC.readDefault = s.readDefault := rfl
@[simp] theorem State.syncC_lastStrobePower163 : s.syncC.lastStrobePower163 = s.lastStrobePower163 := rfl
@[simp] theorem State.syncC_fs304Formulas : s.syncC.fs304Formulas = s.fs304Formulas := rfl
@[simp] theorem State.syncC_pending : s.syncC.pending = s.pending := rfl
@[simp] theorem State.syncC_out : s.syncC.out = s.out := rfl
@[simp] theorem State.syncC_draws : s.syncC.draws = s.draws := rfl

@[simp] theorem State.newInstance_variant (v : Variant) (b : Bool) : (s.newInstance v b).variant = v := rfl
@[simp] theorem State.newInstance_battery (v : Variant) (b : Bool) : (s.newInstance v b).battery = b := rfl
@[simp] theorem State.newInstance_reg (v : Variant) (b : Bool) : (s.newInstance v b).reg = RegFile.zero := rfl
@[simp] theorem State.newInstance_lastStrobe (v : Variant) (b : Bool) : (s.newInstance v b).lastStrobe = 0x00 := rfl
@[simp] theorem State.newInstance_trigger (v : Variant) (b : Bool) : (s.newInstance v b).trigger = 0x00 := rfl
@[simp] theorem State.newInstance_prgWin (v : Variant) (b : Bool) : (s.newInstance v b).prgWin = none := rfl
@[simp] theorem State.newInstance_chrLo (v : Variant) (b : Bool) : (s.newInstance v b).chrLo = none := rfl
@[simp] theorem State.newInstance_chrHi (v : Variant) (b : Bool) : (s.newInstance v b).chrHi = none := rfl
@[simp] theorem State.newInstance_wramWin (v : Variant) (b : Bool) : (s.newInstance v b).wramWin = false := rfl
@[simp] theorem State.newInstance_wram (v : Variant) (b : Bool) : (s.newInstance v b).wram = [] := rfl
@[simp] theorem State.newInstance_phase (v : Variant) (b : Bool) : (s.newInstance v b).phase = .created := rfl
@[simp] theorem State.newInstance_readDefault (v : Variant) (b : Bool) : (s.newInstance v b).readDefault = s.readDefault := rfl
@[simp] theorem State.newInstance_lastStrobePower163 (v : Variant) (b : Bool) : (s.newInstance v b).lastStrobePower163 = s.lastStrobePower163 := rfl
@[simp] theorem State.newInstance_fs304Formulas (v : Variant) (b : Bool) : (s.newInstance v b).fs304Formulas = s.fs304Formulas := rfl
@[simp] theorem State.newInstance_pending (v : Variant) (b : Bool) : (s.newInstance v b).pending = s.pending := rfl
@[simp] theorem State.newInstance_out (v : Variant) (b : Bool) : (s.newInstance v b).out = s.out := rfl
@[simp] theorem State.newInstance_draws (v : Variant) (b : Bool) : (s.newInstance v b).draws = s.draws := rfl

@[simp] theorem State.loadFields_variant (fs : List SavedField) : (s.loadFields fs).variant = s.variant := rfl
@[simp] theorem State.loadFields_battery (fs : List SavedField) : (s.loadFields fs).battery = s.battery := rfl
@[simp] theorem State.loadFields_prgWin (fs : List SavedField) : (s.loadFields fs).prgWin = s.prgWin := rfl
@[simp] theorem State.loadFields_chrLo (fs : List SavedField) : (s.loadFields fs).chrLo = s.chrLo := rfl
@[simp] theorem State.loadFields_chrHi (fs : List SavedField) : (s.loadFields fs).chrHi = s.chrHi := rfl
@[simp] theorem State.loadFields_wramWin (fs : List SavedField) : (s.loadFields fs).wramWin = s.wramWin := rfl
@[simp] theorem State.loadFields_phase (fs : List SavedField) : (s.loadFields fs).phase = s.phase := rfl
@[simp] theorem State.loadFields_readDefault (fs : List SavedField) : (s.loadFields fs).readDefault = s.readDefault := rfl
@[simp] theorem State.loadFields_lastStrobePower163 (fs : List SavedField) : (s.loadFields fs).lastStrobePower163 = s.lastStrobePower163 := rfl
@[simp] theorem State.loadFields_fs304Formulas (fs : List SavedField) : (s.loadFields fs).fs304Formulas = s.fs304Formulas := rfl
@[simp] theorem State.loadFields_pending (fs : List SavedField) : (s.loadFields fs).pending = s.pending := rfl
@[simp] theorem State.loadFields_out (fs : List SavedField) : (s.loadFields fs).out = s.out := rfl
@[simp] theorem State.loadFields_draws (fs : List SavedField) : (s.loadFields fs).draws = s.draws := rfl

@[simp] theorem State.syncT_eq : s.syncT = s := rfl

end Sys2Proof.Machine
end

