-- ==== Sys2Proof/Laws/Ops.lean ====
section
/-! SUPPORT. What each shared operation can answer, said once. -/

namespace Sys2Proof.Machine

variable {s t u : State} {v : Variant} {k : Result}

@[simp] theorem next_inj : (Host.Outcome.next s : Result) = .next t ↔ s = t :=
  ⟨fun h => Host.Outcome.next.inj h, fun h => h ▸ rfl⟩

theorem whenRunning_running (h : s.phase = .running) : whenRunning s k = k := by
  simp [whenRunning, h]

theorem whenRunning_created (h : s.phase = .created) : whenRunning s k = .refused .notPowered := by
  simp [whenRunning, h]

theorem whenRunning_tornDown (h : s.phase = .tornDown) : whenRunning s k = .refused .tornDown := by
  simp [whenRunning, h]

theorem whenRunning_next (h : whenRunning s k = .next t) : s.phase = .running ∧ k = .next t := by
  unfold whenRunning at h
  split at h
  · exact nomatch h
  · exact ⟨‹_›, h⟩
  · exact nomatch h

theorem whenPowerable_live (h : s.phase ≠ .tornDown) : whenPowerable s k = k := by
  unfold whenPowerable
  split
  · rfl
  · rfl
  · exact absurd ‹_› h

theorem whenPowerable_tornDown (h : s.phase = .tornDown) : whenPowerable s k = .refused .tornDown := by
  simp [whenPowerable, h]

theorem whenPowerable_next (h : whenPowerable s k = .next t) : s.phase ≠ .tornDown ∧ k = .next t := by
  unfold whenPowerable at h
  split at h
  · next hp => exact ⟨by simp [hp], h⟩
  · next hp => exact ⟨by simp [hp], h⟩
  · exact nomatch h

theorem forVariant_same (h : s.variant = v) : forVariant v s k = k := by
  simp [forVariant, h]

theorem forVariant_next (h : forVariant v s k = .next t) : s.variant = v ∧ k = .next t := by
  unfold forVariant at h
  split at h
  · exact ⟨‹_›, h⟩
  · exact nomatch h

theorem forBoard_board (h : s.variant ≠ .vTemplate) : forBoard s k = k := by
  simp [forBoard, h]

theorem forBoard_next (h : forBoard s k = .next t) : s.variant ≠ .vTemplate ∧ k = .next t := by
  unfold forBoard at h
  split at h
  · exact nomatch h
  · exact ⟨‹_›, h⟩

theorem withBattery_next (h : withBattery s k = .next t) :
    s.battery = true ∧ s.variant ≠ .vTemplate ∧ k = .next t := by
  unfold withBattery at h
  split at h
  · next hb => exact ⟨hb.1, hb.2, h⟩
  · exact nomatch h

theorem runningIn_ready (h : s.readyAs v) : runningIn v s t = .next t := by
  unfold runningIn
  rw [whenRunning_running h.2, forVariant_same h.1]

theorem runningIn_next (h : runningIn v s t = .next u) : s.readyAs v ∧ u = t := by
  obtain ⟨hp, h⟩ := whenRunning_next h
  obtain ⟨hv, h⟩ := forVariant_next h
  exact ⟨⟨hv, hp⟩, (next_inj.mp h).symm⟩

theorem runningBoard_ready (h : s.boardReady) : runningBoard s t = .next t := by
  unfold runningBoard
  rw [whenRunning_running h.2, forBoard_board h.1]

theorem runningBoard_next (h : runningBoard s t = .next u) : s.boardReady ∧ u = t := by
  obtain ⟨hp, h⟩ := whenRunning_next h
  obtain ⟨hv, h⟩ := forBoard_next h
  exact ⟨⟨hv, hp⟩, (next_inj.mp h).symm⟩

/-- A work-RAM store lands when the work RAM is mapped and changes nothing otherwise. -/
theorem State.storeWram_cases (s : State) (j : Nat) (b : Byte) :
    (s.wramWin = true ∧ s.storeWram j b = s.setWram (s.wram.write j b)) ∨
      (s.wramWin = false ∧ s.storeWram j b = s) := by
  unfold State.storeWram
  cases h : s.wramWin <;> simp

/-- A work-RAM load drives the byte when the work RAM is mapped and is not driven otherwise. -/
theorem State.loadWram_cases (s : State) (j : Nat) :
    (s.wramWin = true ∧ s.loadWram j = s.drive (s.wram.read j)) ∨
      (s.wramWin = false ∧ s.loadWram j = s.undriven) := by
  unfold State.loadWram
  cases h : s.wramWin <;> simp

/-- An override takes effect in split-CHR mode alone. -/
theorem State.scanlineOverride_cases (s : State) (b : Byte) :
    (splitChr s.reg = true ∧ s.scanlineOverride b = s.overrideChr b) ∨
      (splitChr s.reg = false ∧ s.scanlineOverride b = s) := by
  unfold State.scanlineOverride
  cases h : splitChr s.reg <;> simp

/-- Sync is the push of formula A, the push of formula C, or nothing. -/
theorem State.sync_cases (s : State) :
    ((s.variant = .v164 ∨ s.variant = .v163) ∧ s.sync = s.syncAB) ∨ (s.variant = .vFS304 ∧ s.sync = s.syncC) ∨
      (s.variant = .vTemplate ∧ s.sync = s) := by
  unfold State.sync
  cases h : s.variant <;> simp

/-- Formula C, with the selector's two bits known: the index of their case, of which only case 5/7 is no parameter. -/
theorem formulaC_eq {p : Fs304Formulas} {f : RegFile} {b2 b0 : Bool} (h2 : f.r3.getLsbD 2 = b2) (h0 : f.r3.getLsbD 0 = b0) :
    formulaC p f =
      (match b2, b0 with
        | false, false => fsIndex02 p f
        | false, true => fsIndex13 p f
        | true, false => fsIndex46 p f
        | true, true => fsCase57 f).setWidth 12 := by
  subst h2 h0; rfl

end Sys2Proof.Machine
end

