-- ==== Sys2Proof/Laws/Exec.lean ====
section
/-! SUPPORT. What each meaning can do, said once: `exec_next` inverts an `exec` that answers a next state, and the small
lemmas beside it say which fields the conditional operations can touch. -/

namespace Sys2Proof.Machine

/-- The size test of a restore, said of the byte strings. -/
theorem restorable_iff (fs : List SavedField) : restorable fs = true ↔ fieldSizesRight fs := by
  simp only [restorable, sizeFits, fieldSizesRight, Bool.and_eq_true, and_assoc]
  cases fieldOf .stb fs <;> cases fieldOf .trg fs <;> cases fieldOf .regs fs <;> cases fieldOf .wram fs <;>
    simp [tagSize, Config.wramSize, eq_comm]

/-- The bytes of a field that is found are those of a member of the set. -/
theorem fieldOf_mem {t : Tag} {fs : List SavedField} {b : Bytes} (h : fieldOf t fs = some b) : ∃ f ∈ fs, f.bytes = b := by
  induction fs with
  | nil => cases h
  | cons f fs ih =>
    unfold fieldOf at h
    split at h
    · cases h
      exact ⟨f, by simp, rfl⟩
    · obtain ⟨g, hg, e⟩ := ih h
      exact ⟨g, by simp [hg], e⟩

/-- A work-RAM store touches the work RAM alone. -/
theorem State.storeWram_eq (s : State) (k : Nat) (v : Byte) :
    s.storeWram k v = { s with wram := (s.storeWram k v).wram } := by
  rcases s.storeWram_cases k v with ⟨_, h⟩ | ⟨_, h⟩ <;> rw [h]
  rfl

/-- A work-RAM store leaves every other byte alone. -/
theorem State.storeWram_read_other (s : State) {j k : Nat} (v : Byte) (h : j ≠ k) :
    (s.storeWram k v).wram.read j = s.wram.read j := by
  rcases s.storeWram_cases k v with ⟨_, h'⟩ | ⟨_, h'⟩
  · rw [h']
    exact Memory.read_write_other _ _ h
  · rw [h']

/-- A work-RAM load changes what is handed out and the count of draws alone. -/
theorem State.loadWram_eq (s : State) (k : Nat) :
    ∃ o n, s.loadWram k = { s with out := o, draws := n } ∧ o ≠ .irqAssert := by
  rcases s.loadWram_cases k with ⟨_, h⟩ | ⟨_, h⟩
  · exact ⟨.drive _, s.draws, h, nofun⟩
  · exact ⟨.undriven _, s.draws + 1, h, nofun⟩

/-- An override touches the CHR windows alone. -/
theorem State.scanlineOverride_eq (s : State) (b : Byte) :
    s.scanlineOverride b =
      { s with chrLo := (s.scanlineOverride b).chrLo, chrHi := (s.scanlineOverride b).chrHi } := by
  rcases s.scanlineOverride_cases b with ⟨_, h⟩ | ⟨_, h⟩ <;> rw [h]
  rfl

/-- What each instruction does when it answers a next state, and when it does. -/
theorem exec_next {i : Instr} {s t : State} (h : exec i s = .next t) :
  match i with
  | .w164Reg1 _ d => s.readyAs .v164 ∧ t = (s.quiet.setReg .r1 d).syncAB
  | .w164Reg0 _ d => s.readyAs .v164 ∧ t = (s.quiet.setReg .r0 d).syncAB
  | .w164Reg3 _ d => s.readyAs .v164 ∧ t = (s.quiet.setReg .r3 d).syncAB
  | .w164Reg2 _ d => s.readyAs .v164 ∧ t = (s.quiet.setReg .r2 d)
  | .r164Cfg _ => s.readyAs .v164 ∧ t = s.undriven
  | .w163Strobe d => s.readyAs .v163 ∧ t = s.quiet.setLatch d (strobeTrigger s.lastStrobe s.trigger d)
  | .w163ForcePrg => s.readyAs .v163 ∧ t = s.quiet.forcePrg 3
  | .w163Reg1 _ d => s.readyAs .v163 ∧ t = (s.quiet.setReg .r1 d).syncAB
  | .w163Reg3 _ d => s.readyAs .v163 ∧ t = (s.quiet.setReg .r3 d).syncAB
  | .w163Reg0 _ d => s.readyAs .v163 ∧ t = (s.quiet.setReg .r0 d).syncAB
  | .w163Reg2 _ d => s.readyAs .v163 ∧ t = (s.quiet.setReg .r2 d)
  | .r163Trig _ => s.readyAs .v163 ∧ t = s.drive (triggerPort s)
  | .r163Status _ => s.readyAs .v163 ∧ t = s.drive (statusPort s.reg)
  | .r163Default _ => s.readyAs .v163 ∧ t = s.drive s.readDefault
  | .wfsReg0 _ d => s.readyAs .vFS304 ∧ t = (s.quiet.setReg .r0 d).syncC
  | .wfsReg1 _ d => s.readyAs .vFS304 ∧ t = (s.quiet.setReg .r1 d).syncC
  | .wfsReg2 _ d => s.readyAs .vFS304 ∧ t = (s.quiet.setReg .r2 d).syncC
  | .wfsReg3 _ d => s.readyAs .vFS304 ∧ t = (s.quiet.setReg .r3 d).syncC
  | .rfsCfg _ => s.readyAs .vFS304 ∧ t = s.undriven
  | .wtNop _ _ => s.readyAs .vTemplate ∧ t = s.quiet
  | .rtCfg _ => s.readyAs .vTemplate ∧ t = s.undriven
  | .wtWramW _ _ => s.readyAs .vTemplate ∧ t = s.quiet
  | .wtWramR _ => s.readyAs .vTemplate ∧ t = s.undriven
  | .wramW a d => s.boardReady ∧ t = s.quiet.storeWram (wramOffset a) d
  | .wramR a => s.boardReady ∧ t = s.loadWram (wramOffset a)
  | .prgR _ => s.phase = .running ∧ ∃ o n, t = { s with out := o, draws := n } ∧ o ≠ .irqAssert
  | .prgW _ _ => s.phase = .running ∧ t = s.quiet
  | .chrR _ => s.phase = .running ∧ ∃ o n, t = { s with out := o, draws := n } ∧ o ≠ .irqAssert
  | .ev163Sl239 => s.readyAs .v163 ∧ t = s.quiet.scanlineOverride 0
  | .ev163Sl127 => s.readyAs .v163 ∧ t = s.quiet.scanlineOverride 1
  | .ev163SlOther _ => s.readyAs .v163 ∧ t = s.quiet
  | .ev164Sl _ => s.readyAs .v164 ∧ t = s.quiet
  | .evfsSl _ => s.readyAs .vFS304 ∧ t = s.quiet
  | .evtSl _ => s.readyAs .vTemplate ∧ t = s.assertIrq
  | .power164 _ =>
    s.phase ≠ .tornDown ∧ s.variant = .v164 ∧
      t = (((s.emit (.installed handlers164)).setRegs powerRegs164).setPhase .running).syncAB
  | .power163 _ =>
    s.phase ≠ .tornDown ∧ s.variant = .v163 ∧
      t = ((((s.emit (.installed handlers163)).setRegs RegFile.zero).setLatch s.lastStrobePower163 s.trigger).setPhase
        .running).syncAB
  | .powerFs304 _ =>
    s.phase ≠ .tornDown ∧ s.variant = .vFS304 ∧
      t = (((s.emit (.installed handlersFs304)).setRegs (powerRegsFs304 s.reg)).setPhase .running).syncC
  | .powerT _ =>
    s.phase ≠ .tornDown ∧ s.variant = .vTemplate ∧
      t = (s.emit (.installed handlersTemplate)).setPhase .running
  | .reset _ => s.phase = .running ∧ t = s.quiet
  | .save _ => s.boardReady ∧ t = s.emit (.saved s.savedFields)
  | .saveT _ => s.readyAs .vTemplate ∧ t = s.emit (.saved [])
  | .restore _ fs => s.boardReady ∧ fieldSizesRight fs ∧ t = (s.quiet.loadFields fs).sync
  | .restoreT _ _ => s.readyAs .vTemplate ∧ t = s.quiet
  | .teardown _ => s.phase ≠ .tornDown ∧ t = ((s.quiet.setWram []).clearWindows).setPhase .tornDown
  | .create _ b v => t = s.quiet.newInstance v b
  | .batload _ image =>
    s.phase = .created ∧ s.battery = true ∧ s.variant ≠ .vTemplate ∧
      t = s.quiet.setWram image.cells
  | .batsave _ =>
    s.phase ≠ .tornDown ∧ s.battery = true ∧ s.variant ≠ .vTemplate ∧
      t = s.emit (.image ⟨Config.wramSize, s.wram⟩) := by
  cases i <;> simp only [exec] at h ⊢ <;> first
    | exact runningIn_next h
    | exact runningBoard_next h
    | (obtain ⟨h1, h2⟩ := whenPowerable_next h
       obtain ⟨h3, h4⟩ := forVariant_next h2
       exact ⟨h1, h3, (next_inj.1 h4).symm⟩)
    | (obtain ⟨h1, h2⟩ := whenPowerable_next h
       obtain ⟨h3, h3', h4⟩ := withBattery_next h2
       exact ⟨h1, h3, h3', (next_inj.1 h4).symm⟩)
    | (obtain ⟨h1, h2⟩ := whenPowerable_next h; exact ⟨h1, (next_inj.1 h2).symm⟩)
    | (obtain ⟨h1, h2⟩ := whenRunning_next h; exact ⟨h1, (next_inj.1 h2).symm⟩)
    | exact (next_inj.1 h).symm
    | skip
  · obtain ⟨h1, h2⟩ := whenRunning_next h
    refine ⟨h1, ?_⟩
    have := (next_inj.1 h2).symm
    subst this
    split
    · exact ⟨.undriven (Config.busDraw s.draws), s.draws+1, rfl, nofun⟩
    · exact ⟨.drive _, s.draws, rfl, nofun⟩
  · obtain ⟨h1, h2⟩ := whenRunning_next h
    refine ⟨h1, ?_⟩
    have := (next_inj.1 h2).symm
    subst this
    split
    · exact ⟨.undriven (Config.busDraw s.draws), s.draws+1, rfl, nofun⟩
    · exact ⟨.drive _, s.draws, rfl, nofun⟩
  · obtain ⟨h1, h2⟩ := whenRunning_next h
    obtain ⟨h3, h2⟩ := forBoard_next h2
    split at h2
    · exact ⟨⟨h3, h1⟩, (restorable_iff _).1 ‹_›, (next_inj.1 h2).symm⟩
    · cases h2
  · unfold execBatload at h
    split at h
    · obtain ⟨h3, h3', h4⟩ := withBattery_next h
      exact ⟨‹_›, h3, h3', (next_inj.1 h4).symm⟩
    · cases h
    · cases h

end Sys2Proof.Machine
end

