-- ==== Sys2Proof/Laws/PerInstr.lean ====
section
/-! SUPPORT. For every instruction: the word its encoder makes has the format and the fixed bits of its row of
spec/opcode_table.json. -/

namespace Sys2Proof.Laws.TableRow

/-- The four transaction formats (30_encoding.md R90). -/
inductive Format where
  | busw | busr | ppur | evt
deriving DecidableEq, Repr

/-- The format of a delivery. -/
def formatOf : Delivery → Format
  | .busw _ => .busw
  | .busr _ => .busr
  | .ppur _ => .ppur
  | .evt _ _ => .evt

/-- The word of a delivery as a number. -/
def wordOf : Delivery → Nat
  | .busw w => w.toNat
  | .busr w => w.toNat
  | .ppur w => w.toNat
  | .evt w _ => w.toNat

/-- One fixed field of a row: bits `hi` down to `lo` hold `value`. -/
structure Fixed where
  hi    : Nat
  lo    : Nat
  value : Nat
deriving DecidableEq, Repr

/-- Bits `hi` down to `lo` of a word. -/
def bitsOf (w : Nat) (f : Fixed) : Nat := w / 2 ^ f.lo % 2 ^ (f.hi + 1 - f.lo)

/-- The row of each instruction: its format and its fixed fields, copied from spec/opcode_table.json. -/
def rowOf : Instr → Format × List Fixed
  | .w164Reg1 _ _ => (.busw, [⟨17, 16, 0x0⟩, ⟨23, 20, 0x5⟩])
  | .w164Reg0 _ _ => (.busw, [⟨17, 16, 0x1⟩, ⟨23, 20, 0x5⟩])
  | .w164Reg3 _ _ => (.busw, [⟨17, 16, 0x2⟩, ⟨23, 20, 0x5⟩])
  | .w164Reg2 _ _ => (.busw, [⟨17, 16, 0x3⟩, ⟨23, 20, 0x5⟩])
  | .r164Cfg _ => (.busr, [⟨15, 12, 0x5⟩])
  | .w163Strobe _ => (.busw, [⟨23, 8, 0x5101⟩])
  | .w163ForcePrg => (.busw, [⟨23, 0, 0x510006⟩])
  | .w163Reg1 _ _ => (.busw, [⟨17, 16, 0x0⟩, ⟨23, 20, 0x5⟩])
  | .w163Reg3 _ _ => (.busw, [⟨17, 16, 0x1⟩, ⟨23, 20, 0x5⟩])
  | .w163Reg0 _ _ => (.busw, [⟨17, 16, 0x2⟩, ⟨23, 20, 0x5⟩])
  | .w163Reg2 _ _ => (.busw, [⟨17, 16, 0x3⟩, ⟨23, 20, 0x5⟩])
  | .r163Trig _ => (.busr, [⟨10, 8, 0x5⟩, ⟨15, 12, 0x5⟩])
  | .r163Status _ => (.busr, [⟨10, 8, 0x1⟩, ⟨15, 12, 0x5⟩])
  | .r163Default _ => (.busr, [⟨15, 12, 0x5⟩])
  | .wfsReg0 _ _ => (.busw, [⟨17, 16, 0x0⟩, ⟨23, 20, 0x5⟩])
  | .wfsReg1 _ _ => (.busw, [⟨17, 16, 0x1⟩, ⟨23, 20, 0x5⟩])
  | .wfsReg2 _ _ => (.busw, [⟨17, 16, 0x2⟩, ⟨23, 20, 0x5⟩])
  | .wfsReg3 _ _ => (.busw, [⟨17, 16, 0x3⟩, ⟨23, 20, 0x5⟩])
  | .rfsCfg _ => (.busr, [⟨15, 12, 0x5⟩])
  | .wtNop _ _ => (.busw, [⟨23, 20, 0x5⟩])
  | .rtCfg _ => (.busr, [⟨15, 12, 0x5⟩])
  | .wtWramW _ _ => (.busw, [⟨23, 21, 0x3⟩])
  | .wtWramR _ => (.busr, [⟨15, 13, 0x3⟩])
  | .wramW _ _ => (.busw, [⟨23, 21, 0x3⟩])
  | .wramR _ => (.busr, [⟨15, 13, 0x3⟩])
  | .prgR _ => (.busr, [⟨15, 15, 0x1⟩])
  | .prgW _ _ => (.busw, [⟨23, 23, 0x1⟩])
  | .chrR _ => (.ppur, [⟨15, 13, 0x0⟩])
  | .ev163Sl239 => (.evt, [⟨23, 0, 0x100EF⟩])
  | .ev163Sl127 => (.evt, [⟨23, 0, 0x1007F⟩])
  | .ev163SlOther _ => (.evt, [⟨23, 16, 0x1⟩])
  | .ev164Sl _ => (.evt, [⟨23, 16, 0x1⟩])
  | .evfsSl _ => (.evt, [⟨23, 16, 0x1⟩])
  | .evtSl _ => (.evt, [⟨23, 16, 0x1⟩])
  | .power164 _ => (.evt, [⟨23, 16, 0x2⟩])
  | .power163 _ => (.evt, [⟨23, 16, 0x2⟩])
  | .powerFs304 _ => (.evt, [⟨23, 16, 0x2⟩])
  | .powerT _ => (.evt, [⟨23, 16, 0x2⟩])
  | .reset _ => (.evt, [⟨23, 16, 0x3⟩])
  | .save _ => (.evt, [⟨23, 16, 0x4⟩])
  | .saveT _ => (.evt, [⟨23, 16, 0x4⟩])
  | .restore _ _ => (.evt, [⟨23, 16, 0x5⟩])
  | .restoreT _ _ => (.evt, [⟨23, 16, 0x5⟩])
  | .teardown _ => (.evt, [⟨23, 16, 0x6⟩])
  | .create _ _ _ => (.evt, [⟨23, 16, 0x7⟩])
  | .batload _ _ => (.evt, [⟨23, 16, 0x8⟩])
  | .batsave _ => (.evt, [⟨23, 16, 0x9⟩])

/-- The encoder's word for a well-formed instruction has its row's format and fixed fields. -/
def Statement (i : Instr) : Prop :=
  i.wellFormed = true → formatOf (encode i) = (rowOf i).1 ∧ ∀ f ∈ (rowOf i).2, bitsOf (wordOf (encode i)) f = f.value

theorem toNat_extract (a : BitVec 16) (start len : Nat) :
    (a.extractLsb' start len).toNat = a.toNat / 2 ^ start % 2 ^ len := by
  rw [BitVec.extractLsb'_toNat, Nat.shiftRight_eq_div_pow]

theorem cfgWrite_bits {sel : BitVec 2} {a : Addr} (h : inCfgWrite sel a = true) :
    a.toNat / 4096 % 16 = 5 ∧ a.toNat / 256 % 4 = sel.toNat := by
  simp only [inCfgWrite, inCfgRange, Bool.and_eq_true, decide_eq_true_eq] at h
  have h1 := congrArg BitVec.toNat h.1
  have h2 := congrArg BitVec.toNat h.2
  rw [toNat_extract] at h1 h2
  exact ⟨h1, h2⟩

theorem cfgRange_bits {a : Addr} (h : inCfgRange a = true) : a.toNat / 4096 % 16 = 5 := by
  simp only [inCfgRange, decide_eq_true_eq] at h
  have h1 := congrArg BitVec.toNat h
  rw [toNat_extract] at h1
  exact h1

theorem wramRange_bits {a : Addr} (h : inWramRange a = true) : a.toNat / 8192 % 8 = 3 := by
  simp only [inWramRange, decide_eq_true_eq] at h
  have h1 := congrArg BitVec.toNat h
  rw [toNat_extract] at h1
  exact h1

theorem prgRange_bits {a : Addr} (h : inPrgRange a = true) : a.toNat / 32768 % 2 = 1 := by
  simp only [inPrgRange, decide_eq_true_eq] at h
  have h1 := congrArg BitVec.toNat h
  rw [toNat_extract] at h1
  exact h1

/-- A configuration write at register select `sel` has the fixed fields of its row. -/
theorem cfgWrite_row {sel : BitVec 2} {a : Addr} (d : Byte) (h : inCfgWrite sel a = true) :
    ∀ f ∈ [(⟨17, 16, sel.toNat⟩ : Fixed), ⟨23, 20, 5⟩], bitsOf (wordOf (wr a d)) f = f.value := by
  have hb := cfgWrite_bits h
  have hd := d.isLt
  intro f hf
  simp only [List.mem_cons, List.not_mem_nil, or_false] at hf
  rcases hf with rfl | rfl <;> simp only [bitsOf, wordOf, wr, toNat_append_eq] <;> omega

/-- A write in a range has the fixed field of its row. -/
theorem write_row {a : Addr} (d : Byte) {lo n value : Nat} (h : a.toNat / 2 ^ lo % 2 ^ n = value) (hn : 0 < n) :
    ∀ f ∈ [(⟨lo + 8 + n - 1, lo + 8, value⟩ : Fixed)], bitsOf (wordOf (wr a d)) f = f.value := by
  intro f hf
  simp only [List.mem_cons, List.not_mem_nil, or_false] at hf
  subst hf
  have hd : (a.toNat * 2 ^ 8 + d.toNat) / 2 ^ (lo + 8) = a.toNat / 2 ^ lo := by
    rw [Nat.pow_add, Nat.mul_comm (2 ^ lo), ← Nat.div_div_eq_div_mul]
    have := d.isLt
    congr 1
    omega
  have hlen : lo + 8 + n - 1 + 1 - (lo + 8) = n := by omega
  simp only [bitsOf, wordOf, wr, toNat_append_eq, hd, hlen, h]

/-- An event has the fixed field of its row, its code. -/
theorem event_row (e : Byte) (n : Operand) (p : Payload) :
    ∀ f ∈ [(⟨23, 16, e.toNat⟩ : Fixed)], bitsOf (wordOf (.evt (e ++ n) p)) f = f.value := by
  intro f hf
  simp only [List.mem_cons, List.not_mem_nil, or_false] at hf
  subst hf
  have he := e.isLt
  have hn := n.isLt
  simp only [bitsOf, wordOf, toNat_append_eq]
  omega

theorem w164Reg1 (a : Addr) (d : Byte) : Statement (.w164Reg1 a d) :=
  fun h => ⟨rfl, cfgWrite_row d h⟩

theorem w164Reg0 (a : Addr) (d : Byte) : Statement (.w164Reg0 a d) :=
  fun h => ⟨rfl, cfgWrite_row d h⟩

theorem w164Reg3 (a : Addr) (d : Byte) : Statement (.w164Reg3 a d) :=
  fun h => ⟨rfl, cfgWrite_row d h⟩

theorem w164Reg2 (a : Addr) (d : Byte) : Statement (.w164Reg2 a d) :=
  fun h => ⟨rfl, cfgWrite_row d h⟩

theorem r164Cfg (a : Addr) : Statement (.r164Cfg a) :=
  fun h => ⟨rfl, by
    have h1 := cfgRange_bits h
    intro f hf
    simp only [rowOf, List.mem_cons, List.not_mem_nil, or_false] at hf
    subst hf
    simp only [bitsOf, wordOf, encode]
    omega⟩

theorem w163Strobe (d : Byte) : Statement (.w163Strobe d) :=
  fun _ => ⟨rfl, by
    intro f hf
    simp only [rowOf, List.mem_cons, List.not_mem_nil, or_false] at hf
    subst hf
    have hd := d.isLt
    have ha : (0x5101 : Addr).toNat = 0x5101 := rfl
    simp only [bitsOf, wordOf, encode, wr, toNat_append_eq, ha]
    omega⟩

theorem w163ForcePrg : Statement .w163ForcePrg :=
  fun _ => ⟨rfl, by decide⟩

theorem w163Reg1 (a : Addr) (d : Byte) : Statement (.w163Reg1 a d) :=
  fun h => ⟨rfl, cfgWrite_row d h⟩

theorem w163Reg3 (a : Addr) (d : Byte) : Statement (.w163Reg3 a d) :=
  fun h => ⟨rfl, by
    simp only [Instr.wellFormed, Bool.and_eq_true] at h
    exact cfgWrite_row d h.1.1⟩

theorem w163Reg0 (a : Addr) (d : Byte) : Statement (.w163Reg0 a d) :=
  fun h => ⟨rfl, cfgWrite_row d h⟩

theorem w163Reg2 (a : Addr) (d : Byte) : Statement (.w163Reg2 a d) :=
  fun h => ⟨rfl, cfgWrite_row d h⟩

theorem r163Trig (a : Addr) : Statement (.r163Trig a) :=
  fun h => ⟨rfl, by
    simp only [Instr.wellFormed, Bool.and_eq_true, decide_eq_true_eq] at h
    have h1 := cfgRange_bits h.1
    have h2 := congrArg BitVec.toNat h.2
    rw [toNat_extract] at h2
    simp only [BitVec.toNat_ofNat] at h2
    intro f hf
    simp only [rowOf, List.mem_cons, List.not_mem_nil, or_false] at hf
    rcases hf with rfl | rfl <;> simp only [bitsOf, wordOf, encode] <;> omega⟩

theorem r163Status (a : Addr) : Statement (.r163Status a) :=
  fun h => ⟨rfl, by
    simp only [Instr.wellFormed, Bool.and_eq_true, decide_eq_true_eq] at h
    have h1 := cfgRange_bits h.1
    have h2 := congrArg BitVec.toNat h.2
    rw [toNat_extract] at h2
    simp only [BitVec.toNat_ofNat] at h2
    intro f hf
    simp only [rowOf, List.mem_cons, List.not_mem_nil, or_false] at hf
    rcases hf with rfl | rfl <;> simp only [bitsOf, wordOf, encode] <;> omega⟩

theorem r163Default (a : Addr) : Statement (.r163Default a) :=
  fun h => ⟨rfl, by
    simp only [Instr.wellFormed, Bool.and_eq_true] at h
    have h1 := cfgRange_bits h.1.1
    intro f hf
    simp only [rowOf, List.mem_cons, List.not_mem_nil, or_false] at hf
    subst hf
    simp only [bitsOf, wordOf, encode]
    omega⟩

theorem wfsReg0 (a : Addr) (d : Byte) : Statement (.wfsReg0 a d) :=
  fun h => ⟨rfl, cfgWrite_row d h⟩

theorem wfsReg1 (a : Addr) (d : Byte) : Statement (.wfsReg1 a d) :=
  fun h => ⟨rfl, cfgWrite_row d h⟩

theorem wfsReg2 (a : Addr) (d : Byte) : Statement (.wfsReg2 a d) :=
  fun h => ⟨rfl, cfgWrite_row d h⟩

theorem wfsReg3 (a : Addr) (d : Byte) : Statement (.wfsReg3 a d) :=
  fun h => ⟨rfl, cfgWrite_row d h⟩

theorem rfsCfg (a : Addr) : Statement (.rfsCfg a) :=
  fun h => ⟨rfl, by
    have h1 := cfgRange_bits h
    intro f hf
    simp only [rowOf, List.mem_cons, List.not_mem_nil, or_false] at hf
    subst hf
    simp only [bitsOf, wordOf, encode]
    omega⟩

theorem wtNop (a : Addr) (d : Byte) : Statement (.wtNop a d) :=
  fun h => ⟨rfl, write_row d (lo := 12) (n := 4) (cfgRange_bits h) (by decide)⟩

theorem rtCfg (a : Addr) : Statement (.rtCfg a) :=
  fun h => ⟨rfl, by
    have h1 := cfgRange_bits h
    intro f hf
    simp only [rowOf, List.mem_cons, List.not_mem_nil, or_false] at hf
    subst hf
    simp only [bitsOf, wordOf, encode]
    omega⟩

theorem wtWramW (a : Addr) (d : Byte) : Statement (.wtWramW a d) :=
  fun h => ⟨rfl, write_row d (lo := 13) (n := 3) (wramRange_bits h) (by decide)⟩

theorem wtWramR (a : Addr) : Statement (.wtWramR a) :=
  fun h => ⟨rfl, by
    have h1 := wramRange_bits h
    intro f hf
    simp only [rowOf, List.mem_cons, List.not_mem_nil, or_false] at hf
    subst hf
    simp only [bitsOf, wordOf, encode]
    omega⟩

theorem wramW (a : Addr) (d : Byte) : Statement (.wramW a d) :=
  fun h => ⟨rfl, write_row d (lo := 13) (n := 3) (wramRange_bits h) (by decide)⟩

theorem wramR (a : Addr) : Statement (.wramR a) :=
  fun h => ⟨rfl, by
    have h1 := wramRange_bits h
    intro f hf
    simp only [rowOf, List.mem_cons, List.not_mem_nil, or_false] at hf
    subst hf
    simp only [bitsOf, wordOf, encode]
    omega⟩

theorem prgR (a : Addr) : Statement (.prgR a) :=
  fun h => ⟨rfl, by
    have h1 := prgRange_bits h
    intro f hf
    simp only [rowOf, List.mem_cons, List.not_mem_nil, or_false] at hf
    subst hf
    simp only [bitsOf, wordOf, encode]
    omega⟩

theorem prgW (a : Addr) (d : Byte) : Statement (.prgW a d) :=
  fun h => ⟨rfl, write_row d (lo := 15) (n := 1) (prgRange_bits h) (by decide)⟩

theorem chrR (p : Addr) : Statement (.chrR p) :=
  fun h => ⟨rfl, by
    simp only [Instr.wellFormed, decide_eq_true_eq] at h
    have h1 := congrArg BitVec.toNat h
    rw [toNat_extract] at h1
    simp only [BitVec.toNat_ofNat] at h1
    intro f hf
    simp only [rowOf, List.mem_cons, List.not_mem_nil, or_false] at hf
    subst hf
    simp only [bitsOf, wordOf, encode]
    omega⟩

theorem ev163Sl239 : Statement .ev163Sl239 :=
  fun _ => ⟨rfl, by decide⟩

theorem ev163Sl127 : Statement .ev163Sl127 :=
  fun _ => ⟨rfl, by decide⟩

theorem ev163SlOther (n : Operand) : Statement (.ev163SlOther n) :=
  fun _ => ⟨rfl, event_row 0x01 n .none⟩

theorem ev164Sl (n : Operand) : Statement (.ev164Sl n) :=
  fun _ => ⟨rfl, event_row 0x01 n .none⟩

theorem evfsSl (n : Operand) : Statement (.evfsSl n) :=
  fun _ => ⟨rfl, event_row 0x01 n .none⟩

theorem evtSl (n : Operand) : Statement (.evtSl n) :=
  fun _ => ⟨rfl, event_row 0x01 n .none⟩

theorem power164 (n : Operand) : Statement (.power164 n) :=
  fun _ => ⟨rfl, event_row 0x02 n .none⟩

theorem power163 (n : Operand) : Statement (.power163 n) :=
  fun _ => ⟨rfl, event_row 0x02 n .none⟩

theorem powerFs304 (n : Operand) : Statement (.powerFs304 n) :=
  fun _ => ⟨rfl, event_row 0x02 n .none⟩

theorem powerT (n : Operand) : Statement (.powerT n) :=
  fun _ => ⟨rfl, event_row 0x02 n .none⟩

theorem reset (n : Operand) : Statement (.reset n) :=
  fun _ => ⟨rfl, event_row 0x03 n .none⟩

theorem save (n : Operand) : Statement (.save n) :=
  fun _ => ⟨rfl, event_row 0x04 n .none⟩

theorem saveT (n : Operand) : Statement (.saveT n) :=
  fun _ => ⟨rfl, event_row 0x04 n .none⟩

theorem restore (n : Operand) (fields : List SavedField) : Statement (.restore n fields) :=
  fun _ => ⟨rfl, event_row 0x05 n (.fields fields)⟩

theorem restoreT (n : Operand) (fields : List SavedField) : Statement (.restoreT n fields) :=
  fun _ => ⟨rfl, event_row 0x05 n (.fields fields)⟩

theorem teardown (n : Operand) : Statement (.teardown n) :=
  fun _ => ⟨rfl, event_row 0x06 n .none⟩

theorem create (upper : BitVec 13) (battery : Bool) (v : Variant) : Statement (.create upper battery v) :=
  fun _ => ⟨rfl, event_row 0x07 (createOperand upper battery v) .none⟩

theorem batload (n : Operand) (image : Bytes) : Statement (.batload n image) :=
  fun _ => ⟨rfl, event_row 0x08 n (.image image)⟩

theorem batsave (n : Operand) : Statement (.batsave n) :=
  fun _ => ⟨rfl, event_row 0x09 n .none⟩

end Sys2Proof.Laws.TableRow
end

