-- ==== Sys2Proof/Laws/Step.lean ====
section
/-! SUPPORT. What a step can do, and what stands where `withFetchWord` puts a transaction. -/

namespace Sys2Proof.Machine

/-- A step that answers a next state either had nothing to take, or ran the transaction it took. -/
theorem step_next {s t : State} (h : step s = .next t) :
    (s.pending = [] ∧ t = s) ∨
      ∃ dl rest i, s.pending = dl :: rest ∧ decode s.variant dl = .ok i ∧ exec i { s with pending := rest } = .next t := by
  unfold step at h
  split at h
  · exact .inl ⟨‹_›, (next_inj.mp h).symm⟩
  · split at h
    · exact .inr ⟨_, _, _, ‹_›, ‹_›, h⟩
    · exact nomatch h

/-- A table word is placed as the very next transaction. -/
theorem withFetchWord_pending {s : State} {nbits w : Nat} {dl : Delivery} (h : tableDelivery nbits w = some dl) :
    (s.withFetchWord nbits w).pending = dl :: s.pending := by
  simp [State.withFetchWord, h]

/-- `execAll` on one instruction more. -/
theorem execAll_cons (i : Instr) (is : List Instr) {s t : State} (h : exec i s = .next t) :
    execAll (i :: is) s = execAll is t := by
  simp [execAll, h]

/-- A run that answers a next state had a next state after its first instruction. -/
theorem execAll_cons_next {i : Instr} {is : List Instr} {s u : State} (h : execAll (i :: is) s = .next u) :
    ∃ t, exec i s = .next t ∧ execAll is t = .next u := by
  unfold execAll at h
  split at h
  · exact ⟨_, ‹_›, h⟩
  · exact nomatch h
  · exact nomatch h

end Sys2Proof.Machine
end

