-- ==== Sys2Proof/Tests/Slice0.lean ====
section
/-! SUPPORT. The model's own tests. Expected values come from the spec (the section of 95_test_vectors.md, or the rule, is
named at each); then a witness for the hypotheses of every obligation that has some. -/

namespace Sys2Proof.Tests

open Sys2Proof Sys2Proof.Machine

/-! ## Helpers -/

/-- The answer is a next state that meets `p`. -/
def gives (r : Result) (p : State → Bool) : Bool :=
  match r with
  | .next t => p t
  | .fault _ => false
  | .refused _ => false

/-- The answer is the refusal `x`. -/
def refuses (r : Result) (x : Refusal) : Bool :=
  match r with
  | .next _ => false
  | .fault _ => false
  | .refused y => decide (y = x)

/-- The block returned nothing. -/
def notDriven (s : State) : Bool :=
  match s.out with
  | .undriven _ => true
  | .none | .drive _ | .irqAssert | .saved _ | .image _ | .installed _ => false

/-- One step on the delivery `dl`. -/
def run (s : State) (dl : Delivery) : Result := step { s with pending := [dl] }

/-- A register file with `reg[0..3]` given and `reg[4..7]` zero. -/
def regs (r0 r1 r2 r3 : Byte) : RegFile := { RegFile.zero with r0 := r0, r1 := r1, r2 := r2, r3 := r3 }

/-- Variant 164 in the start state of 95_test_vectors.md §2.1. -/
def s164 : State := { State.reset with variant := .v164, reg := regs 0x03 0x0A 0x00 0x00, prgWin := some 0x03A }

/-- Variant 163 as powered on, with the registers `f`. -/
def s163 (f : RegFile) : State := { State.reset with reg := f }

/-- Variant UNLFS304 with the registers `f`, the windows as its power-on leaves them. -/
def sFs (f : RegFile) : State := { State.reset with variant := .vFS304, reg := f, prgWin := some 0x003 }

/-- Variant Template, powered on: no window mapped. -/
def sT : State :=
  { State.reset with
    variant := .vTemplate, battery := false, lastStrobe := 0x00, prgWin := none, chrLo := none, chrHi := none,
    wramWin := false }

/-- A new instance of variant `v`, as CREATE leaves it. -/
def sNew (v : Variant) (battery : Bool) : State := State.reset.newInstance v battery

/-- A torn-down instance. -/
def sGone : State := { State.reset.clearWindows with phase := .tornDown }

/-! ## WellFormed: an ill-formed term for each check -/

theorem test_wf_refuses_write_outside_the_range :
    Instr.wellFormed (.w164Reg1 0x4000 0) = false ∧ Instr.wellFormed (.w164Reg0 0x6100 0) = false ∧
    Instr.wellFormed (.w164Reg3 0x4200 0) = false ∧ Instr.wellFormed (.w164Reg2 0xD300 0) = false ∧
    Instr.wellFormed (.w163Reg1 0x4000 0) = false ∧ Instr.wellFormed (.w163Reg3 0x6100 0) = false ∧
    Instr.wellFormed (.w163Reg0 0x4200 0) = false ∧ Instr.wellFormed (.w163Reg2 0xD300 0) = false ∧
    Instr.wellFormed (.wfsReg0 0x4000 0) = false ∧ Instr.wellFormed (.wfsReg1 0x6100 0) = false ∧
    Instr.wellFormed (.wfsReg2 0x4200 0) = false ∧ Instr.wellFormed (.wfsReg3 0xD300 0) = false ∧
    Instr.wellFormed (.wtNop 0x6000 0) = false := by decide

theorem test_wf_refuses_another_select :
    Instr.wellFormed (.w164Reg1 0x5100 0) = false ∧ Instr.wellFormed (.w164Reg0 0x5000 0) = false ∧
    Instr.wellFormed (.w164Reg3 0x5300 0) = false ∧ Instr.wellFormed (.w164Reg2 0x5200 0) = false ∧
    Instr.wellFormed (.w163Reg1 0x5200 0) = false ∧ Instr.wellFormed (.w163Reg3 0x5000 0) = false ∧
    Instr.wellFormed (.w163Reg0 0x5300 0) = false ∧ Instr.wellFormed (.w163Reg2 0x5100 0) = false ∧
    Instr.wellFormed (.wfsReg0 0x5100 0) = false ∧ Instr.wellFormed (.wfsReg1 0x5200 0) = false ∧
    Instr.wellFormed (.wfsReg2 0x5300 0) = false ∧ Instr.wellFormed (.wfsReg3 0x5000 0) = false := by decide

theorem test_wf_refuses_the_strobe_port_and_the_quirk_as_register_writes :
    Instr.wellFormed (.w163Reg3 0x5101 0x06) = false ∧ Instr.wellFormed (.w163Reg3 0x5100 0x06) = false ∧
    Instr.wellFormed (.w163Reg3 0x5100 0x07) = true ∧ Instr.wellFormed (.w163Reg3 0x5180 0x06) = true := by decide

theorem test_wf_refuses_reads_of_another_place :
    Instr.wellFormed (.r164Cfg 0x6000) = false ∧ Instr.wellFormed (.rfsCfg 0x4FFF) = false ∧
    Instr.wellFormed (.rtCfg 0x8000) = false ∧ Instr.wellFormed (.r163Trig 0x5100) = false ∧
    Instr.wellFormed (.r163Trig 0x4500) = false ∧ Instr.wellFormed (.r163Status 0x5500) = false ∧
    Instr.wellFormed (.r163Status 0x4100) = false ∧ Instr.wellFormed (.r163Default 0x5100) = false ∧
    Instr.wellFormed (.r163Default 0x5500) = false ∧ Instr.wellFormed (.r163Default 0x4000) = false := by decide

theorem test_wf_refuses_window_accesses_of_another_range :
    Instr.wellFormed (.wtWramW 0x8000 0) = false ∧ Instr.wellFormed (.wtWramR 0x5FFF) = false ∧
    Instr.wellFormed (.wramW 0x5FFF 0) = false ∧ Instr.wellFormed (.wramR 0x8000) = false ∧
    Instr.wellFormed (.prgR 0x7FFF) = false ∧ Instr.wellFormed (.prgW 0x7FFF 0) = false ∧
    Instr.wellFormed (.chrR 0x2000) = false := by decide

theorem test_wf_refuses_the_override_scanlines_as_others :
    Instr.wellFormed (.ev163SlOther 239) = false ∧ Instr.wellFormed (.ev163SlOther 127) = false := by decide

theorem test_wf_refuses_bad_payloads :
    Instr.wellFormed (.restore 0 [⟨.stb, ⟨1, []⟩⟩, ⟨.stb, ⟨1, []⟩⟩]) = false ∧
    Instr.wellFormed (.restore 0 [⟨.stb, ⟨1, [(0, 0x00)]⟩⟩]) = false ∧
    Instr.wellFormed (.restore 0 [⟨.regs, ⟨8, [(8, 0x01)]⟩⟩]) = false ∧
    Instr.wellFormed (.restoreT 0 [⟨.regs, ⟨8, [(1, 0x01), (0, 0x02)]⟩⟩]) = false ∧
    Instr.wellFormed (.batload 0 ⟨8191, []⟩) = false ∧
    Instr.wellFormed (.batload 0 ⟨8192, [(3, 0x01), (3, 0x02)]⟩) = false := by decide

/-! ## Decoding: for every row a word written out from its encoding (30_encoding.md R90-R98) -/

/-- `{A, D}` bit by bit: range nibble 0101, `A[9:8]` the select (R91, R96). -/
theorem test_decode_writes_164 :
    decode .v164 (.busw 0b010100000000000000001010) = .ok (.w164Reg1 0x5000 0x0A) ∧
    decode .v164 (.busw 0b010100010000000000000011) = .ok (.w164Reg0 0x5100 0x03) ∧
    decode .v164 (.busw 0b010100100000000010101011) = .ok (.w164Reg3 0x5200 0xAB) ∧
    decode .v164 (.busw 0b010111111111111101110111) = .ok (.w164Reg2 0x5FFF 0x77) ∧
    decode .v164 (.busw 0x510100) = .ok (.w164Reg0 0x5101 0x00) := by decide

theorem test_decode_writes_163 :
    decode .v163 (.busw 0b010100010000000111111111) = .ok (.w163Strobe 0xFF) ∧
    decode .v163 (.busw 0b010100010000000000000110) = .ok .w163ForcePrg ∧
    decode .v163 (.busw 0b010100000000000010001111) = .ok (.w163Reg1 0x5000 0x8F) ∧
    decode .v163 (.busw 0b010110010000000101000100) = .ok (.w163Reg3 0x5901 0x44) ∧
    decode .v163 (.busw 0b010110100000000000010010) = .ok (.w163Reg0 0x5A00 0x12) ∧
    decode .v163 (.busw 0b010100110000000001000000) = .ok (.w163Reg2 0x5300 0x40) ∧
    decode .v163 (.busw 0x510106) = .ok (.w163Strobe 0x06) := by decide

/-- `A[10:8]` selects the port (R97). -/
theorem test_decode_reads_163 :
    decode .v163 (.busr 0b0101110100000000) = .ok (.r163Trig 0x5D00) ∧
    decode .v163 (.busr 0b0101100110101011) = .ok (.r163Status 0x59AB) ∧
    decode .v163 (.busr 0b0101011000000000) = .ok (.r163Default 0x5600) := by decide

theorem test_decode_writes_fs304 :
    decode .vFS304 (.busw 0b010100000000000000000010) = .ok (.wfsReg0 0x5000 0x02) ∧
    decode .vFS304 (.busw 0b010100010000000101010101) = .ok (.wfsReg1 0x5101 0x55) ∧
    decode .vFS304 (.busw 0b010111100000000000000001) = .ok (.wfsReg2 0x5E00 0x01) ∧
    decode .vFS304 (.busw 0b010101111111111100000101) = .ok (.wfsReg3 0x57FF 0x05) := by decide

theorem test_decode_undriven_reads :
    decode .v164 (.busr 0b0101000100000000) = .ok (.r164Cfg 0x5100) ∧
    decode .vFS304 (.busr 0b0101010100000000) = .ok (.rfsCfg 0x5500) ∧
    decode .vTemplate (.busr 0b0101111111111111) = .ok (.rtCfg 0x5FFF) := by decide

theorem test_decode_template_accesses :
    decode .vTemplate (.busw 0b010100000000000000010010) = .ok (.wtNop 0x5000 0x12) ∧
    decode .vTemplate (.busw 0b011000000000000000000001) = .ok (.wtWramW 0x6000 0x01) ∧
    decode .vTemplate (.busr 0b0110000000000000) = .ok (.wtWramR 0x6000) := by decide

theorem test_decode_window_accesses :
    decode .v164 (.busw 0b011111111111111101011010) = .ok (.wramW 0x7FFF 0x5A) ∧
    decode .v163 (.busr 0b0110000100100011) = .ok (.wramR 0x6123) ∧
    decode .vFS304 (.busr 0b1111111111111100) = .ok (.prgR 0xFFFC) ∧
    decode .v164 (.busw 0b100000000000000000000001) = .ok (.prgW 0x8000 0x01) ∧
    decode .v163 (.ppur 0b0001001000110100) = .ok (.chrR 0x1234) := by decide

/-- `{E, N}` (R94); `-1` is 0xFFFF, 383 is 0x017F. -/
theorem test_decode_scanline_events :
    decode .v163 (.evt 0b000000010000000011101111 .none) = .ok .ev163Sl239 ∧
    decode .v163 (.evt 0b000000010000000001111111 .none) = .ok .ev163Sl127 ∧
    decode .v163 (.evt 0b000000010000000101111111 .none) = .ok (.ev163SlOther 383) ∧
    decode .v164 (.evt 0x0100EF .none) = .ok (.ev164Sl 239) ∧
    decode .vFS304 (.evt 0x01007F .none) = .ok (.evfsSl 127) ∧
    decode .vTemplate (.evt 0x010005 .none) = .ok (.evtSl 5) := by decide

theorem test_decode_lifecycle_events :
    decode .v164 (.evt 0b000000100000000000000000 .none) = .ok (.power164 0) ∧
    decode .v163 (.evt 0x020000 .none) = .ok (.power163 0) ∧
    decode .vFS304 (.evt 0x020000 .none) = .ok (.powerFs304 0) ∧
    decode .vTemplate (.evt 0x020000 .none) = .ok (.powerT 0) ∧
    decode .v164 (.evt 0x030000 .none) = .ok (.reset 0) ∧
    decode .vTemplate (.evt 0x060000 .none) = .ok (.teardown 0) ∧
    decode .v163 (.evt 0b000001110000000000000110 .none) = .ok (.create 0 true .vFS304) ∧
    decode .v163 (.evt 0x070003 .none) = .ok (.create 0 false .vTemplate) := by decide

theorem test_decode_persistence_events :
    decode .v164 (.evt 0b000001000000000000000000 .none) = .ok (.save 0) ∧
    decode .vTemplate (.evt 0x040000 .none) = .ok (.saveT 0) ∧
    decode .v163 (.evt 0x050000 (.fields [⟨.stb, ⟨1, [(0, 0x05)]⟩⟩])) = .ok (.restore 0 [⟨.stb, ⟨1, [(0, 0x05)]⟩⟩]) ∧
    decode .vTemplate (.evt 0x050000 (.fields [])) = .ok (.restoreT 0 []) ∧
    decode .v164 (.evt 0x080000 (.image ⟨8192, [(0, 0x11)]⟩)) = .ok (.batload 0 ⟨8192, [(0, 0x11)]⟩) ∧
    decode .v164 (.evt 0x090000 .none) = .ok (.batsave 0) := by decide

theorem test_decode_rejects_by_name :
    decode .v164 (.busw 0x4FFF00) = .error .notDelivered ∧ decode .v163 (.busr 0x0000) = .error .notDelivered ∧
    decode .v163 (.ppur 0x2000) = .error .badPatternAddress ∧ decode .v163 (.evt 0x0A0000 .none) = .error .badEvent ∧
    decode .v163 (.evt 0x000000 (.fields [])) = .error .badEvent ∧
    decode .v163 (.evt 0x050000 .none) = .error .badPayload ∧ decode .v163 (.evt 0x010000 (.fields [])) = .error .badPayload ∧
    decode .v163 (.evt 0x050000 (.fields [⟨.trg, ⟨1, []⟩⟩, ⟨.trg, ⟨1, []⟩⟩])) = .error .badFieldSet ∧
    decode .v163 (.evt 0x080000 (.image ⟨8191, []⟩)) = .error .badImage := by decide

theorem test_table_words :
    decodeTableWord 24 0x510006 = some .w163ForcePrg ∧ decodeTableWord 24 0x530000 = some (.w163Reg2 0x5300 0x00) ∧
    decodeTableWord 16 0x5500 = some (.r163Trig 0x5500) ∧ decodeTableWord 16 0x0000 = some (.chrR 0x0000) ∧
    decodeTableWord 24 0x050000 = some (.restore 0 []) ∧ decodeTableWord 24 0x080000 = some (.batload 0 ⟨8192, []⟩) ∧
    decodeTableWord 24 0x0A0000 = none ∧ decodeTableWord 16 0x4FFF = none := by decide

/-! ## One step of each instruction -/

/-- 45_lifecycle.md R250, R252: CREATE of a battery-backed variant 163, then POWER, gives `State.reset` but for `out`. -/
theorem test_reset_is_create_then_power :
    gives (run sGone (.evt 0x070005 .none)) (fun s =>
      gives (run s (.evt 0x020000 .none)) fun t => decide ({ t with out := .none } = State.reset)) = true := by decide

/-- `withFetchWord` puts a word where the next step takes it. -/
theorem test_with_fetch_word :
    gives (step (State.reset.withFetchWord 24 0x500080)) (fun t => decide (t.reg.r1 = 0x80 ∧ t.pending = [])) = true := by
  decide

/-- §2.1: aliases, and `WR 0x5000, 0xF7`. -/
theorem test_w164_reg1 :
    gives (run s164 (.busw 0x5C0005)) (fun t => decide (t.reg = regs 0x03 0x05 0x00 0x00 ∧ t.prgWin = some 0x035)) = true ∧
    gives (run s164 (.busw 0x5000F7)) (fun t => decide (t.reg.r1 = 0xF7 ∧ t.prgWin = some 0x037)) = true := by decide

/-- §2.1: 0x5101 is no strobe on 164. -/
theorem test_w164_reg0 :
    gives (run s164 (.busw 0x5D2312)) (fun t => decide (t.reg.r0 = 0x12 ∧ t.prgWin = some 0x12A)) = true ∧
    gives (run s164 (.busw 0x510100)) (fun t => decide (t.reg = regs 0x00 0x0A 0x00 0x00 ∧ t.prgWin = some 0x00A ∧
      t.lastStrobe = s164.lastStrobe)) = true := by decide

/-- §2.1, with a stale window that the Sync repairs. -/
theorem test_w164_reg3 :
    gives (run { s164 with prgWin := some 0 } (.busw 0x5200AB))
      (fun t => decide (t.reg = regs 0x03 0x0A 0x00 0xAB ∧ t.prgWin = some 0x03A)) = true := by decide

/-- §2.1, with a stale window that stays: no Sync. -/
theorem test_w164_reg2 :
    gives (run { s164 with prgWin := some 0 } (.busw 0x5FFF77))
      (fun t => decide (t.reg = regs 0x03 0x0A 0x77 0x00 ∧ t.prgWin = some 0)) = true := by decide

theorem test_r164_cfg : gives (run s164 (.busr 0x5100)) (fun t => notDriven t && decide (t.reg = s164.reg)) = true := by
  decide

/-- §2.6: the first column of the strobe sequence, and a write of a value that is not zero. -/
theorem test_w163_strobe :
    gives (run State.reset (.busw 0x510100)) (fun t => decide (t.trigger = 0x01 ∧ t.lastStrobe = 0x00)) = true ∧
    gives (run State.reset (.busw 0x510106)) (fun t => decide (t.trigger = 0x00 ∧ t.lastStrobe = 0x06 ∧
      t.prgWin = some 0x000)) = true := by decide

/-- §2.6: `trigger = 0x02` becomes 0x03 at a falling edge; a zero after a zero is no edge. -/
theorem test_w163_strobe_other_bits :
    gives (run { State.reset with trigger := 0x02, lastStrobe := 0x80 } (.busw 0x510100)) (fun t => decide (t.trigger = 0x03))
      = true ∧
    gives (run { State.reset with trigger := 0x01, lastStrobe := 0x00 } (.busw 0x510100)) (fun t => decide (t.trigger = 0x01))
      = true := by decide

/-- §2.2: the quirk. -/
theorem test_w163_force_prg :
    gives (run State.reset (.busw 0x510006)) (fun t => decide (t.reg = RegFile.zero ∧ t.prgWin = some 0x003 ∧
      t.chrLo = some 0 ∧ t.chrHi = some 1)) = true := by decide

/-- §2.2 and §2.7: `WR 0x5000` Syncs, which cancels an override. -/
theorem test_w163_reg1 :
    gives (run { State.reset with chrLo := some 1 } (.busw 0x50008F)) (fun t => decide (t.reg.r1 = 0x8F ∧
      t.prgWin = some 0x00F ∧ t.chrLo = some 0 ∧ t.chrHi = some 1)) = true := by decide

/-- §2.2: near the strobe port and near the quirk pair. -/
theorem test_w163_reg3 :
    gives (run State.reset (.busw 0x590144)) (fun t => decide (t.reg.r3 = 0x44 ∧ t.lastStrobe = 0x01)) = true ∧
    gives (run { State.reset with prgWin := some 3 } (.busw 0x518006)) (fun t => decide (t.reg.r3 = 0x06 ∧
      t.prgWin = some 0x000)) = true := by decide

/-- §1.1 and §2.2. -/
theorem test_w163_reg0 :
    gives (run State.reset (.busw 0x5A0012)) (fun t => decide (t.reg.r0 = 0x12 ∧ t.prgWin = some 0x120)) = true := by decide

/-- §2.7: a write of `reg[2]` keeps an override. -/
theorem test_w163_reg2 :
    gives (run { s163 (regs 0x02 0x80 0x00 0x00) with chrLo := some 1, prgWin := some 3 } (.busw 0x530001))
      (fun t => decide (t.reg.r2 = 0x01 ∧ t.chrLo = some 1 ∧ t.prgWin = some 3)) = true := by decide

/-- §2.5: the trigger port. -/
theorem test_r163_trig :
    gives (run { s163 (regs 0x00 0x80 0x01 0x00) with trigger := 0x02 } (.busr 0x5500)) (fun t => decide (t.out = .drive 0x81))
      = true ∧
    gives (run (s163 (regs 0x00 0x02 0x40 0x00)) (.busr 0x5500)) (fun t => decide (t.out = .drive 0x00)) = true := by decide

/-- §2.5: the composite port. -/
theorem test_r163_status :
    gives (run (s163 (regs 0x00 0x02 0x40 0xFF)) (.busr 0x5101)) (fun t => decide (t.out = .drive 0x42 ∧
      t.lastStrobe = 0x01)) = true ∧
    gives (run (s163 (regs 0x10 0x00 0x00 0xFF)) (.busr 0x5100)) (fun t => decide (t.out = .drive 0x10)) = true := by decide

/-- §2.5: the default. -/
theorem test_r163_default :
    gives (run State.reset (.busr 0x5300)) (fun t => decide (t.out = .drive 0x04)) = true := by decide

/-- §1.2: step 2 of scenario 2. -/
theorem test_wfs_reg0 :
    gives (run (sFs (regs 0x03 0x0B 0x00 0x05)) (.busw 0x500002)) (fun t => decide (t.reg.r0 = 0x02 ∧ t.prgWin = some 0x002))
      = true := by decide

/-- §2.3: a write of 0x5101 is `reg[1]`, case 0/2 (`reg[3] = 0x00`), and no latch. -/
theorem test_wfs_reg1 :
    gives (run (sFs (regs 0x03 0x00 0x05 0x00)) (.busw 0x51010B)) (fun t => decide (t.reg.r1 = 0x0B ∧
      t.prgWin = some 0x052 ∧ t.lastStrobe = 0x01)) = true := by decide

/-- §1.2: step 3 of scenario 2. -/
theorem test_wfs_reg2 :
    gives (run (sFs (regs 0x02 0x0B 0x00 0x05)) (.busw 0x520001)) (fun t => decide (t.reg.r2 = 0x01 ∧ t.prgWin = some 0x012))
      = true := by decide

/-- §2.3: cases 1/3 and 4/6. -/
theorem test_wfs_reg3 :
    gives (run (sFs (regs 0x03 0x0B 0x05 0x00)) (.busw 0x57FF03)) (fun t => decide (t.prgWin = some 0x050)) = true ∧
    gives (run (sFs (regs 0xFF 0x02 0xFF 0x00)) (.busw 0x530004)) (fun t => decide (t.prgWin = some 0x0FF)) = true := by
  decide

/-- §2.3: the corner cases, and bits 7:3 of `reg[3]` ignored. -/
theorem test_formula_c_corners :
    formulaC .standard (regs 0xFF 0xFF 0xFF 0x05) = 0x0FF ∧ formulaC .standard (regs 0xFF 0xFF 0xFF 0x00) = 0x0FE ∧
    formulaC .standard (regs 0xFF 0xFF 0xFF 0x01) = 0x0FC ∧ formulaC .standard (regs 0x03 0x0B 0x05 0xFA) = 0x052 := by decide

/-- Under another `FS304_FORMULAS` the power-on values still give 0x003, by case 5/7 (R164, R166), and a case 0/2 index is
that set's (00_scope.md R7). -/
theorem test_other_formulas :
    formulaC (.other 1) (regs 0x03 0x0B 0x00 0x07) = 0x003 ∧
    formulaC (.other 1) (regs 0x03 0x0B 0x05 0x00) = (Config.fs304Case02 1 0x03 0x0B 0x05).setWidth 12 := ⟨by decide, rfl⟩

/-- §2.4: formula A. -/
theorem test_formula_a :
    formulaA (regs 0x80 0x81 0 0) = 0x801 ∧ formulaA (regs 0xFF 0x0F 0 0) = 0xFFF ∧ formulaA (regs 0x00 0xF0 0 0) = 0x000 := by
  decide

theorem test_rfs_cfg : gives (run (sFs RegFile.zero) (.busr 0x5100)) notDriven = true := by decide

/-- §2.10: the template's write. -/
theorem test_wt_nop : run sT (.busw 0x500012) = .next { sT with pending := [], out := .none } := by rfl

theorem test_rt_cfg : gives (run sT (.busr 0x5000)) (fun t => notDriven t && decide (t.draws = 1)) = true := by decide

/-- §2.8: no work RAM in the template. -/
theorem test_wt_wram_w : gives (run sT (.busw 0x600001)) (fun t => decide (t.wram = [])) = true := by decide

theorem test_wt_wram_r : gives (run sT (.busr 0x6000)) notDriven = true := by decide

/-- §2.8: the last byte of the work RAM; a zero leaves no cell. -/
theorem test_wram_w :
    gives (run s164 (.busw 0x7FFF5A)) (fun t => decide (t.wram = [(0x1FFF, 0x5A)])) = true ∧
    gives (run { s164 with wram := [(0x1FFF, 0x5A)] } (.busw 0x7FFF00)) (fun t => decide (t.wram = [])) = true := by decide

/-- §2.8. -/
theorem test_wram_r :
    gives (run { s164 with wram := [(0x0000, 0x11), (0x1FFF, 0x5A)] } (.busr 0x7FFF)) (fun t => decide (t.out = .drive 0x5A))
      = true ∧
    gives (run State.reset (.busr 0x6123)) (fun t => decide (t.out = .drive 0x00)) = true := by decide

/-- §2.8: with `PRG32_MASK = 0x3F`, `prgWin = 0x03A` reads PRGROM[0x1D7FFC] at 0xFFFC; §2.4: 0xFFF reads bank 0x3F. -/
theorem test_prg_r :
    prgRomAddr 0x3F 0x03A 0xFFFC = 0x1D7FFC ∧ prgRomAddr 0x3F 0xFFF 0x8000 = 0x1F8000 ∧
    run s164 (.busr 0xFFFC) = .next { s164 with out := .drive (Config.prgRom (prgRomAddr Config.prg32Mask 0x03A 0xFFFC)) } :=
  ⟨by decide, by decide, rfl⟩

/-- §2.8: the template maps no PRG. -/
theorem test_prg_r_unmapped : gives (run sT (.busr 0x8000)) notDriven = true := by decide

/-- §2.1: `WR 0x8000`. -/
theorem test_prg_w : run s164 (.busw 0x800001) = .next { s164 with out := .none } := by rfl

/-- §2.8: with `CHR4_MASK = 0x0F`, CHR (1, 1) reads CHRMEM[0x1010] at 0x0010. -/
theorem test_chr_r :
    chrMemAddr 0x0F 1 0x0010 = 0x1010 ∧ chrMemAddr 0x0F 0 0x1010 = 0x0010 ∧ chrMemAddr 0x0F 1 0x1234 = 0x1234 ∧
    run State.reset (.ppur 0x1234) =
      .next { State.reset with out := .drive (Config.chrMem (chrMemAddr Config.chr4Mask 1 0x1234)) } :=
  ⟨by decide, by decide, by decide, rfl⟩

/-- §2.7: split on, and split off. -/
theorem test_ev163_sl239 :
    gives (run (s163 (regs 0 0x80 0 0)) (.evt 0x0100EF .none)) (fun t => decide (t.chrLo = some 0 ∧ t.chrHi = some 0)) = true ∧
    gives (run State.reset (.evt 0x0100EF .none)) (fun t => decide (t.chrLo = some 0 ∧ t.chrHi = some 1)) = true := by decide

theorem test_ev163_sl127 :
    gives (run (s163 (regs 0 0x80 0 0)) (.evt 0x01007F .none)) (fun t => decide (t.chrLo = some 1 ∧ t.chrHi = some 1)) = true ∧
    gives (run (s163 (regs 0 0x7F 0 0)) (.evt 0x01007F .none)) (fun t => decide (t.chrLo = some 0 ∧ t.chrHi = some 1)) = true := by
  decide

/-- §2.7: scanline 383, whose low byte is 127. -/
theorem test_ev163_slother :
    gives (run (s163 (regs 0 0x80 0 0)) (.evt 0x01017F .none)) (fun t => decide (t.chrLo = some 0 ∧ t.chrHi = some 1)) = true := by
  decide

theorem test_ev164_sl :
    gives (run { s164 with reg := regs 0 0xFF 0 0 } (.evt 0x0100EF .none)) (fun t => decide (t.chrHi = some 1)) = true := by
  decide

theorem test_evfs_sl :
    gives (run (sFs (regs 0 0x80 0 0)) (.evt 0x01007F .none)) (fun t => decide (t.chrLo = some 0)) = true := by decide

/-- §2.7: one interrupt request and no other change. -/
theorem test_evt_sl : run sT (.evt 0x010005 .none) = .next { sT with out := .irqAssert } := by rfl

/-- §1.5: the 164 power-on. -/
theorem test_power164 :
    gives (run (sNew .v164 false) (.evt 0x020000 .none)) (fun t => decide (t.reg = regs 0x00 0xFF 0x00 0x00 ∧
      t.prgWin = some 0x00F ∧ t.chrLo = some 0 ∧ t.chrHi = some 1 ∧ t.wramWin = true ∧ t.phase = .running)) = true := by decide

/-- §2.10: `trigger` is kept; `lastStrobe` is `LASTSTROBE_POWER_163`. -/
theorem test_power163 :
    gives (run { s163 (regs 1 2 3 4) with trigger := 0x01, lastStrobe := 0x55 } (.evt 0x020000 .none))
      (fun t => decide (t.reg = RegFile.zero ∧ t.trigger = 0x01 ∧ t.lastStrobe = 0x01 ∧ t.prgWin = some 0x000)) = true := by decide

/-- §2.10: `reg[5]` is kept. -/
theorem test_power_fs304 :
    gives (run (sFs { RegFile.zero with r5 := 0x99 }) (.evt 0x020000 .none)) (fun t => decide (
      t.reg = { regs 0x03 0x0B 0x00 0x07 with r5 := 0x99 } ∧ t.prgWin = some 0x003)) = true := by decide

theorem test_power_t :
    gives (run (sNew .vTemplate false) (.evt 0x020000 .none)) (fun t => decide (t.phase = .running ∧ t.prgWin = none)) = true := by
  decide

/-- §2.10: a soft reset changes nothing; before power-on it is refused (10_state.md R36). -/
theorem test_reset_event :
    run s164 (.evt 0x030000 .none) = .next { s164 with out := .none } ∧
    refuses (run (sNew .v164 false) (.evt 0x030000 .none)) .notPowered = true := ⟨rfl, by decide⟩

/-- §2.9: what a new 164 saves. -/
theorem test_save :
    gives (run { s164 with lastStrobe := 0, reg := regs 0x00 0xFF 0x00 0x00 } (.evt 0x040000 .none)) (fun t => decide (
      t.out = .saved [⟨.stb, ⟨1, []⟩⟩, ⟨.trg, ⟨1, []⟩⟩, ⟨.regs, ⟨8, [(1, 0xFF)]⟩⟩, ⟨.wram, ⟨8192, []⟩⟩])) = true := by decide

theorem test_save_t : gives (run sT (.evt 0x040000 .none)) (fun t => decide (t.out = .saved [])) = true := by decide

/-- §2.9: `RESTORE {STB: 05, XYZ: 01}` and `RESTORE {REGS: 02 00}` (two bytes). -/
theorem test_restore :
    gives (run State.reset (.evt 0x050000 (.fields [⟨.stb, ⟨1, [(0, 0x05)]⟩⟩, ⟨.other "XYZ", ⟨1, [(0, 0x01)]⟩⟩])))
      (fun t => decide (t.lastStrobe = 0x05 ∧ t.reg = RegFile.zero)) = true ∧
    refuses (run State.reset (.evt 0x050000 (.fields [⟨.regs, ⟨2, [(0, 0x02)]⟩⟩]))) .badStateField = true := by decide

/-- §2.9: `RESTORE {REGS: 02 00 …}`; `RESTORE {}` cancels an override. -/
theorem test_restore_syncs :
    gives (run State.reset (.evt 0x050000 (.fields [⟨.regs, ⟨8, [(0, 0x02)]⟩⟩])))
      (fun t => decide (t.reg.r0 = 0x02 ∧ t.prgWin = some 0x020)) = true ∧
    gives (run { s163 (regs 0 0x80 0 0) with chrLo := some 1 } (.evt 0x050000 (.fields []))) (fun t => decide (t.chrLo = some 0))
      = true := by decide

theorem test_restore_t :
    run sT (.evt 0x050000 (.fields [⟨.stb, ⟨1, [(0, 0x05)]⟩⟩])) = .next { sT with out := .none } := by rfl

/-- §2.10: after a teardown a read is refused. -/
theorem test_teardown :
    gives (run { s164 with wram := [(3, 0x01)] } (.evt 0x060000 .none)) (fun t => decide (t.phase = .tornDown ∧
      t.prgWin = none ∧ t.chrLo = none ∧ t.wramWin = false) && refuses (run t (.busr 0x6000)) .tornDown) = true := by decide

/-- §2.10: before the power-on a bus write is refused. -/
theorem test_create :
    gives (run { s164 with wram := [(3, 0x01)] } (.evt 0x070001 .none)) (fun t => decide (t.variant = .v163 ∧
      t.battery = false ∧ t.reg = RegFile.zero ∧ t.lastStrobe = 0x00 ∧ t.wram = [] ∧ t.phase = .created ∧ t.prgWin = none) &&
      refuses (run t (.busw 0x500001)) .notPowered) = true := by decide

/-- §2.9: the image lands; without a battery, and after the power-on, it is refused. -/
theorem test_batload :
    gives (run (sNew .v164 true) (.evt 0x080000 (.image ⟨8192, [(0, 0x11), (1, 0x22)]⟩)))
      (fun t => decide (t.wram.read 1 = 0x22)) = true ∧
    refuses (run (sNew .v164 false) (.evt 0x080000 (.image ⟨8192, []⟩))) .noBattery = true ∧
    refuses (run s164 (.evt 0x080000 (.image ⟨8192, []⟩))) .notCreated = true := by decide

/-- P5 of §3, step 12: the image is the work RAM. -/
theorem test_batsave :
    gives (run { s164 with wram := [(0, 0x11), (0x1FFF, 0x5A)] } (.evt 0x090000 .none))
      (fun t => decide (t.out = .image ⟨8192, [(0, 0x11), (0x1FFF, 0x5A)]⟩)) = true ∧
    refuses (run { s164 with battery := false } (.evt 0x090000 .none)) .noBattery = true := by decide

/-- §2.10: `EVT 0x0A0000`. -/
theorem test_bad_event : refuses (run s164 (.evt 0x0A0000 .none)) .badEvent = true := by decide

/-! ## A witness for the hypotheses of each obligation -/

theorem witness_DecodeOfEncodeIsTheInstruction :
    Instr.wellFormed (.w163Reg3 0x5901 0x44) = true ∧ Instr.inVariant .v163 (.w163Reg3 0x5901 0x44) = true := by decide

theorem witness_DecodedInstructionEncodesBack :
    decode .v163 (.evt 0x070007 .none) = .ok (.create 0 true .vTemplate) := by decide

/-- Both ends of each range, a board and the template. -/
theorem witness_BusRangesDecodeToTheirRows :
    ((0x6000 : Addr).extractLsb' 13 3 = 0x3#3 ∧ (0x7FFF : Addr).extractLsb' 13 3 = 0x3#3 ∧ Variant.v164 ≠ .vTemplate ∧
      Variant.vTemplate = .vTemplate) ∧
    ((0x8000 : Addr).extractLsb' 15 1 = 0x1#1 ∧ (0xFFFF : Addr).extractLsb' 15 1 = 0x1#1) ∧
    ((0x0000 : Addr).toNat < 0x2000 ∧ (0x1FFF : Addr).toNat < 0x2000) ∧
    ((0x0000 : Addr).toNat < 0x5000 ∧ (0x4FFF : Addr).toNat < 0x5000) := by decide

theorem witness_ConfigurationAccessMatchesOneRow :
    (0x5000 : Addr).extractLsb' 12 4 = 0x5#4 ∧ (0x5FFF : Addr).extractLsb' 12 4 = 0x5#4 := by decide

/-- Codes 0, 10 and 255, in a state whose queue holds such an event. -/
theorem witness_UnknownEventCodeIsRefused :
    ({ State.reset with pending := [.evt 0x0A0000 .none] } : State).pending = .evt 0x0A0000 .none :: [] ∧
    ((0x00FFFF : BitVec 24).extractLsb' 16 8).toNat = 0 ∧ 9 < ((0x0A0000 : BitVec 24).extractLsb' 16 8).toNat ∧
    9 < ((0xFF0000 : BitVec 24).extractLsb' 16 8).toNat := by decide

theorem witness_StepRunsTheDecodedInstruction :
    (({ State.reset with pending := [.busw 0x510003] } : State).pending = .busw 0x510003 :: [] ∧
      decode State.reset.variant (.busw 0x510003) = .ok (.w163Reg3 0x5100 0x03)) ∧
    (({ State.reset with pending := [.ppur 0x2000] } : State).pending = .ppur 0x2000 :: [] ∧
      decode State.reset.variant (.ppur 0x2000) = .error .badPatternAddress) ∧
    State.reset.pending = [] := by decide

theorem witness_FetchWordIsTheNextTransaction :
    State.reset.variant = tableVariant ∧ decodeTableWord 24 0x01007F = some .ev163Sl127 := by decide

/-- The first and the last address of each register's aliases. -/
theorem witness_Write164SetsItsRegister :
    s164.readyAs .v164 ∧ ((0x5000 : Addr).extractLsb' 12 4 = 0x5#4 ∧ (0x5000 : Addr).extractLsb' 8 2 = 0#2) ∧
    ((0x5100 : Addr).extractLsb' 12 4 = 0x5#4 ∧ (0x5100 : Addr).extractLsb' 8 2 = 1#2) ∧
    ((0x5EFF : Addr).extractLsb' 12 4 = 0x5#4 ∧ (0x5EFF : Addr).extractLsb' 8 2 = 2#2) ∧
    ((0x5FFF : Addr).extractLsb' 12 4 = 0x5#4 ∧ (0x5FFF : Addr).extractLsb' 8 2 = 3#2) :=
  ⟨⟨rfl, rfl⟩, by decide⟩

/-- Each clause, the second one beside the strobe port and beside the quirk pair. -/
theorem witness_Write163SetsItsRegister :
    State.reset.readyAs .v163 ∧
    ((0x50FF : Addr).extractLsb' 12 4 = 0x5#4 ∧ (0x50FF : Addr) ≠ 0x5101 ∧
      ¬((0x50FF : Addr) = 0x5100 ∧ (0x06 : Byte) = 0x06) ∧ (0x50FF : Addr).extractLsb' 8 2 = 0#2) ∧
    ((0x5100 : Addr).extractLsb' 12 4 = 0x5#4 ∧ (0x5100 : Addr) ≠ 0x5101 ∧
      ¬((0x5100 : Addr) = 0x5100 ∧ (0x07 : Byte) = 0x06) ∧ (0x5100 : Addr).extractLsb' 8 2 = 1#2) ∧
    ((0x5102 : Addr).extractLsb' 12 4 = 0x5#4 ∧ (0x5102 : Addr) ≠ 0x5101 ∧
      ¬((0x5102 : Addr) = 0x5100 ∧ (0x06 : Byte) = 0x06) ∧ (0x5102 : Addr).extractLsb' 8 2 = 1#2) ∧
    ((0x5200 : Addr).extractLsb' 12 4 = 0x5#4 ∧ (0x5200 : Addr) ≠ 0x5101 ∧
      ¬((0x5200 : Addr) = 0x5100 ∧ (0x06 : Byte) = 0x06) ∧ (0x5200 : Addr).extractLsb' 8 2 = 2#2) ∧
    ((0x5FFF : Addr).extractLsb' 12 4 = 0x5#4 ∧ (0x5FFF : Addr) ≠ 0x5101 ∧
      ¬((0x5FFF : Addr) = 0x5100 ∧ (0x06 : Byte) = 0x06) ∧ (0x5FFF : Addr).extractLsb' 8 2 = 3#2) :=
  ⟨⟨rfl, rfl⟩, by decide⟩

theorem witness_PrgQuirkForcesBankThree : State.reset.readyAs .v163 := ⟨rfl, rfl⟩

/-- A falling edge, and each way a write is none. -/
theorem witness_StrobeTogglesOnFallingEdge :
    State.reset.readyAs .v163 ∧ (State.reset.lastStrobe ≠ 0x00 ∧ (0x00 : Byte) = 0x00) ∧
    ¬(State.reset.lastStrobe ≠ 0x00 ∧ (0x01 : Byte) = 0x00) ∧
    ¬(({ State.reset with lastStrobe := 0x00 } : State).lastStrobe ≠ 0x00 ∧ (0x00 : Byte) = 0x00) :=
  ⟨⟨rfl, rfl⟩, by decide⟩

theorem witness_WriteFs304SetsItsRegisterAndSyncs :
    (sFs RegFile.zero).readyAs .vFS304 ∧
    ((0x5000 : Addr).extractLsb' 12 4 = 0x5#4 ∧ (0x5000 : Addr).extractLsb' 8 2 = 0#2) ∧
    ((0x5101 : Addr).extractLsb' 12 4 = 0x5#4 ∧ (0x5101 : Addr).extractLsb' 8 2 = 1#2) ∧
    ((0x5EFF : Addr).extractLsb' 12 4 = 0x5#4 ∧ (0x5EFF : Addr).extractLsb' 8 2 = 2#2) ∧
    ((0x5FFF : Addr).extractLsb' 12 4 = 0x5#4 ∧ (0x5FFF : Addr).extractLsb' 8 2 = 3#2) :=
  ⟨⟨rfl, rfl⟩, by decide⟩

theorem witness_IgnoredWritesAndSoftResetChangeNothing :
    sT.readyAs .vTemplate ∧ (0x5FFF : Addr).extractLsb' 12 4 = 0x5#4 ∧ (0x6000 : Addr).extractLsb' 13 3 = 0x3#3 ∧
    (s164.phase = .running ∧ (sNew .v164 false).phase = .created ∧ sGone.phase = .tornDown) ∧
    (0x8000 : Addr).extractLsb' 15 1 = 0x1#1 :=
  ⟨⟨rfl, rfl⟩, by decide⟩

theorem witness_FormulaAConcatenates :
    ((regs 0xFF 0x0F 0 0).r0 = 0xFF ∧ (regs 0xFF 0x0F 0 0).r1 = 0x0F) ∧
    ((regs 0x00 0xF0 0 0).r0 = 0x00 ∧ (regs 0x00 0xF0 0 0).r1 = 0xF0) := by decide

/-- Every value of `reg[3][2:0]`, each in one clause. -/
theorem witness_FormulaCInEachCase :
    (regs 1 2 3 0xFD).r3.extractLsb' 0 3 = 5#3 ∧ (regs 1 2 3 0x07).r3.extractLsb' 0 3 = 7#3 ∧
    (regs 1 2 3 0xF8).r3.extractLsb' 0 3 = 0#3 ∧ (regs 1 2 3 0x02).r3.extractLsb' 0 3 = 2#3 ∧
    (regs 1 2 3 0x01).r3.extractLsb' 0 3 = 1#3 ∧ (regs 1 2 3 0x03).r3.extractLsb' 0 3 = 3#3 ∧
    (regs 1 2 3 0x04).r3.extractLsb' 0 3 = 4#3 ∧ (regs 1 2 3 0xFE).r3.extractLsb' 0 3 = 6#3 := by decide

/-- Two states of one variant that agree on `reg[0..3]` alone; and a template. -/
theorem witness_SyncIsPureAndIdempotent :
    (s164.variant = ({ s164 with reg := { s164.reg with r5 := 0x99 }, trigger := 0x01 } : State).variant ∧
      s164.variant ≠ .vTemplate ∧
      s164.fs304Formulas = ({ s164 with reg := { s164.reg with r5 := 0x99 }, trigger := 0x01 } : State).fs304Formulas ∧
      s164.reg.r0 = ({ s164.reg with r5 := 0x99 } : RegFile).r0 ∧
      s164.reg.r1 = ({ s164.reg with r5 := 0x99 } : RegFile).r1 ∧ s164.reg.r2 = ({ s164.reg with r5 := 0x99 } : RegFile).r2 ∧
      s164.reg.r3 = ({ s164.reg with r5 := 0x99 } : RegFile).r3) ∧ sT.variant = .vTemplate := by decide

theorem witness_UndrivenReadsChangeNothing :
    s164.readyAs .v164 ∧ (sFs RegFile.zero).readyAs .vFS304 ∧ sT.readyAs .vTemplate ∧
    (0x5000 : Addr).extractLsb' 12 4 = 0x5#4 ∧ (0x7FFF : Addr).extractLsb' 13 3 = 0x3#3 :=
  ⟨⟨rfl, rfl⟩, ⟨rfl, rfl⟩, ⟨rfl, rfl⟩, by decide⟩

theorem witness_WramWriteStoresItsByte :
    s164.boardReady ∧ s164.wramWin = true ∧ Memory.wf Config.wramSize s164.wram = true ∧
    (0x6000 : Addr).extractLsb' 13 3 = 0x3#3 ∧ (0x7FFF : Addr).extractLsb' 13 3 = 0x3#3 :=
  ⟨⟨nofun, rfl⟩, by decide⟩

theorem witness_WramReadDrivesItsByte :
    State.reset.boardReady ∧ State.reset.wramWin = true ∧ (0x7FFF : Addr).extractLsb' 13 3 = 0x3#3 :=
  ⟨⟨nofun, rfl⟩, by decide⟩

/-- A running template, a new board and a torn-down one; both ends of the range, and rows that are refused. -/
theorem witness_UnmappedWramIsNotServed :
    (sT.Inv ∧ sT.wramWin = false ∧ sT.phase = .running) ∧
    ((sNew .v164 true).Inv ∧ (sNew .v164 true).wramWin = false ∧ (sNew .v164 true).phase = .created) ∧
    (sGone.Inv ∧ sGone.wramWin = false ∧ sGone.phase = .tornDown) ∧
    (0x6000 : Addr).extractLsb' 13 3 = 0x3#3 ∧ (0x7FFF : Addr).extractLsb' 13 3 = 0x3#3 ∧
    decode (sNew .v164 true).variant (.busw (0x6000#16 ++ 0x5A#8)) = .ok (.wramW 0x6000 0x5A) ∧
    decode sGone.variant (.busr 0x7FFF) = .ok (.wramR 0x7FFF) :=
  ⟨⟨⟨rfl, fun _ => ⟨rfl, rfl, rfl, rfl⟩, fun h => absurd rfl h, fun _ => ⟨rfl, rfl, rfl, rfl⟩, nofun, nofun⟩, rfl, rfl⟩,
    ⟨⟨rfl, nofun, fun _ => ⟨rfl, rfl, rfl, rfl⟩, nofun, fun _ => ⟨rfl, rfl, rfl⟩, nofun⟩, rfl, rfl⟩,
    ⟨⟨rfl, nofun, fun _ => ⟨rfl, rfl, rfl, rfl⟩, nofun, nofun, fun _ => rfl⟩, rfl, rfl⟩, by decide⟩

theorem witness_PrgReadGoesThroughTheWindow :
    (s164.phase = .running ∧ s164.prgWin = some 0x03A) ∧ (sT.phase = .running ∧ sT.prgWin = none) ∧
    (0x8000 : Addr).extractLsb' 15 1 = 0x1#1 ∧ (0xFFFF : Addr).extractLsb' 15 1 = 0x1#1 := by decide

/-- Both ends of both halves, and no bank. -/
theorem witness_PatternFetchGoesThroughItsHalf :
    State.reset.phase = .running ∧ State.reset.chrIs 0 1 ∧
    ((0x0000 : Addr).toNat < 0x2000 ∧ (0x0FFF : Addr).toNat < 0x1000 ∧ 0x1000 ≤ (0x1000 : Addr).toNat ∧
      (0x1FFF : Addr).toNat < 0x2000) ∧
    sT.phase = .running ∧ sT.chrLo = none ∧ sT.chrHi = none :=
  ⟨rfl, ⟨rfl, rfl⟩, by decide⟩

/-- Each port, and `trigger` set and clear. -/
theorem witness_ReadPorts163DriveTheirBytes :
    State.reset.readyAs .v163 ∧ State.readyAs { State.reset with trigger := 0x02 } .v163 ∧
    State.reset.trigger = 0x00 ∧ ({ State.reset with trigger := 0x02 } : State).trigger ≠ 0x00 ∧
    ((0x5D00 : Addr).extractLsb' 12 4 = 0x5#4 ∧ (0x5D00 : Addr).extractLsb' 8 3 = 5#3) ∧
    ((0x51FF : Addr).extractLsb' 12 4 = 0x5#4 ∧ (0x51FF : Addr).extractLsb' 8 3 = 1#3) ∧
    ((0x5FFF : Addr).extractLsb' 12 4 = 0x5#4 ∧ (0x5FFF : Addr).extractLsb' 8 3 ≠ 1#3 ∧
      (0x5FFF : Addr).extractLsb' 8 3 ≠ 5#3) :=
  ⟨⟨rfl, rfl⟩, ⟨rfl, rfl⟩, by decide⟩

/-- The flag set and clear; the scanlines beside 239 and 127. -/
theorem witness_ScanlineHook163OverridesChr :
    State.readyAs (s163 (regs 0 0x80 0 0)) .v163 ∧ (s163 (regs 0 0x80 0 0)).reg.r1.getLsbD 7 = true ∧
    State.readyAs (s163 (regs 0 0x7F 0 0)) .v163 ∧ (s163 (regs 0 0x7F 0 0)).reg.r1.getLsbD 7 = false ∧
    ((240 : Operand) ≠ 239 ∧ (240 : Operand) ≠ 127) ∧ ((126 : Operand) ≠ 239 ∧ (126 : Operand) ≠ 127) :=
  ⟨⟨rfl, rfl⟩, by decide, ⟨rfl, rfl⟩, by decide⟩

theorem witness_OtherScanlineEventsMoveNothing :
    s164.readyAs .v164 ∧ (sFs RegFile.zero).readyAs .vFS304 ∧ sT.readyAs .vTemplate :=
  ⟨⟨rfl, rfl⟩, ⟨rfl, rfl⟩, ⟨rfl, rfl⟩⟩

/-- Every variant, from `Created` and from `Running`. -/
theorem witness_PowerOnSetsTheDocumentedValues :
    ((sNew .v164 false).phase ≠ .tornDown ∧ (sNew .v164 false).variant = .v164) ∧
    (State.reset.phase ≠ .tornDown ∧ State.reset.variant = .v163) ∧
    ((sNew .vFS304 true).phase ≠ .tornDown ∧ (sNew .vFS304 true).variant = .vFS304) ∧
    (sT.phase ≠ .tornDown ∧ sT.variant = .vTemplate) ∧ sGone.phase = .tornDown := by decide

theorem witness_TeardownEndsTheInstance :
    sGone.phase = .tornDown ∧ State.reset.phase ≠ .tornDown ∧ (sNew .v163 true).phase ≠ .tornDown ∧
    (∃ t, exec (.teardown 0) State.reset = .next t) ∧ ∀ u b v, Instr.wramR 0x6000 ≠ .create u b v :=
  ⟨rfl, nofun, nofun, ⟨_, rfl⟩, nofun⟩

theorem witness_SaveReturnsTheTaggedFields :
    s164.boardReady ∧ sT.readyAs .vTemplate ∧ (sNew .v164 false).phase = .created ∧ sGone.phase = .tornDown :=
  ⟨⟨nofun, rfl⟩, ⟨rfl, rfl⟩, rfl, rfl⟩

/-- A set with every registered field, one with none but a tag that is not registered; a register field one byte short, a
work RAM one byte long; and the other phases. -/
theorem witness_RestoreLoadsFieldsThenSyncs :
    s164.boardReady ∧
    (fieldsWf s164.savedFields = true ∧ fieldSizesRight s164.savedFields ∧ fieldOf .stb s164.savedFields ≠ none ∧
      fieldOf .trg s164.savedFields ≠ none ∧ fieldOf .regs s164.savedFields ≠ none ∧
      fieldOf .wram s164.savedFields ≠ none) ∧
    (fieldsWf [⟨.other "XYZ", ⟨1, [(0, 0x01)]⟩⟩] = true ∧ fieldSizesRight [⟨.other "XYZ", ⟨1, [(0, 0x01)]⟩⟩] ∧
      fieldOf .stb [⟨.other "XYZ", ⟨1, [(0, 0x01)]⟩⟩] = none ∧ fieldOf .trg [⟨.other "XYZ", ⟨1, [(0, 0x01)]⟩⟩] = none ∧
      fieldOf .regs [⟨.other "XYZ", ⟨1, [(0, 0x01)]⟩⟩] = none ∧ fieldOf .wram [⟨.other "XYZ", ⟨1, [(0, 0x01)]⟩⟩] = none) ∧
    (¬fieldSizesRight [⟨.regs, ⟨7, []⟩⟩] ∧ ¬fieldSizesRight [⟨.wram, ⟨8193, []⟩⟩]) ∧
    (sNew .v163 false).phase = .created ∧ sGone.phase = .tornDown :=
  ⟨⟨nofun, rfl⟩, ⟨by decide, (restorable_iff _).mp rfl, by decide, by decide, by decide, by decide⟩,
    ⟨by decide, (restorable_iff _).mp rfl, by decide, by decide, by decide, by decide⟩,
    ⟨fun h => absurd ((restorable_iff _).mpr h) (by decide), fun h => absurd ((restorable_iff _).mpr h) (by decide)⟩, rfl, rfl⟩

theorem witness_TemplateRestoreChangesNothing : sT.readyAs .vTemplate ∧ fieldsWf [⟨.regs, ⟨7, []⟩⟩] = true :=
  ⟨⟨rfl, rfl⟩, by decide⟩

theorem witness_BatteryLoadFillsTheWorkRam :
    (Bytes.wf ⟨8192, [(0, 0x11)]⟩ = true ∧ (⟨8192, [(0, 0x11)]⟩ : Bytes).size = 8192) ∧
    ((sNew .v164 true).phase = .created ∧ (sNew .v164 true).battery = true ∧ (sNew .v164 true).variant ≠ .vTemplate) ∧
    ((sNew .v163 false).phase = .created ∧ (sNew .v163 false).battery = false) ∧
    ((sNew .vTemplate true).phase = .created ∧ (sNew .vTemplate true).variant = .vTemplate) ∧
    State.reset.phase = .running := by decide

theorem witness_BatterySaveReturnsTheWorkRam :
    (s164.phase ≠ .tornDown ∧ s164.battery = true ∧ s164.variant ≠ .vTemplate) ∧
    ((sNew .v163 true).phase ≠ .tornDown ∧ (sNew .v163 true).battery = true ∧ (sNew .v163 true).variant ≠ .vTemplate) ∧
    ((sNew .v163 false).phase ≠ .tornDown ∧ (sNew .v163 false).battery = false) ∧
    ((sNew .vTemplate true).phase ≠ .tornDown ∧ (sNew .vTemplate true).variant = .vTemplate) := by decide

theorem witness_RefusedOutsideRunning :
    ((sNew .v163 false).phase = .created ∧ roleOf (.wramR 0x6000) ≠ .create ∧ roleOf (.wramR 0x6000) ≠ .power ∧
      roleOf (.wramR 0x6000) ≠ .teardown ∧ roleOf (.wramR 0x6000) ≠ .batload ∧ ∀ n, Instr.wramR 0x6000 ≠ .batsave n) ∧
    (sGone.phase = .tornDown ∧ roleOf (.power163 0) ≠ .create) :=
  ⟨⟨rfl, nofun, nofun, nofun, nofun, nofun⟩, rfl, nofun⟩

/-- A battery save with a battery, and a restore whose field has its size. -/
theorem witness_RunningInstanceCompletesItsRows :
    State.reset.phase = .running ∧
    (Instr.inVariant State.reset.variant (.batsave 0) = true ∧ roleOf (.batsave 0) ≠ .batload ∧
      (∀ n, Instr.batsave 0 = .batsave n → State.reset.battery = true ∧ State.reset.variant ≠ .vTemplate) ∧
      ∀ n fs, Instr.batsave 0 = .restore n fs → fieldSizesRight fs) ∧
    (Instr.inVariant State.reset.variant (.restore 0 [⟨.stb, ⟨1, []⟩⟩]) = true ∧
      roleOf (.restore 0 [⟨.stb, ⟨1, []⟩⟩]) ≠ .batload ∧
      (∀ n, Instr.restore 0 [⟨.stb, ⟨1, []⟩⟩] = .batsave n → State.reset.battery = true ∧ State.reset.variant ≠ .vTemplate) ∧
      ∀ n fs, Instr.restore 0 [⟨.stb, ⟨1, []⟩⟩] = .restore n fs → fieldSizesRight fs) :=
  ⟨rfl, ⟨rfl, nofun, fun _ _ => ⟨rfl, nofun⟩, nofun⟩,
    ⟨rfl, nofun, nofun, fun _ _ h => by cases h; exact (restorable_iff _).mp rfl⟩⟩

theorem witness_RowsOfOtherVariantsAreRefused :
    State.reset.phase = .running ∧ Instr.inVariant State.reset.variant (.w164Reg1 0x5000 0x00) = false := by decide

/-- A write that Syncs and one that does not. -/
theorem witness_RegisterWriteFrame :
    (roleOf (.wfsReg2 0x5200 0x01) = .regWrite .r2 true ∧ ∃ t, exec (.wfsReg2 0x5200 0x01) (sFs RegFile.zero) = .next t) ∧
    (roleOf (.w163Reg2 0x5300 0x01) = .regWrite .r2 false ∧ ∃ t, exec (.w163Reg2 0x5300 0x01) State.reset = .next t) :=
  ⟨⟨rfl, _, rfl⟩, rfl, _, rfl⟩

theorem witness_ReadsChangeNoBlockState :
    roleOf (.wramR 0x6000) = .read ∧ ∃ t, exec (.wramR 0x6000) s164 = .next t := ⟨rfl, _, rfl⟩

theorem witness_WramWriteFrame : ∃ t, exec (.wramW 0x7FFF 0x5A) s164 = .next t := ⟨_, rfl⟩

theorem witness_LatchQuirkAndOverrideFrames :
    (roleOf (.w163Strobe 0x00) = .strobe ∧ ∃ t, exec (.w163Strobe 0x00) State.reset = .next t) ∧
    (roleOf .w163ForcePrg = .forcePrg ∧ ∃ t, exec .w163ForcePrg State.reset = .next t) ∧
    (roleOf .ev163Sl127 = .override ∧ ∃ t, exec .ev163Sl127 (s163 (regs 0 0x80 0 0)) = .next t) :=
  ⟨⟨rfl, _, rfl⟩, ⟨rfl, _, rfl⟩, rfl, _, rfl⟩

theorem witness_LifecycleFrames :
    (roleOf (.reset 0) = .noEffect ∧ ∃ t, exec (.reset 0) s164 = .next t) ∧
    (roleOf (.evtSl 5) = .irq ∧ ∃ t, exec (.evtSl 5) sT = .next t) ∧
    (roleOf (.save 0) = .save ∧ ∃ t, exec (.save 0) s164 = .next t) ∧
    (roleOf (.power163 0) = .power ∧ ∃ t, exec (.power163 0) State.reset = .next t) :=
  ⟨⟨rfl, _, rfl⟩, ⟨rfl, _, rfl⟩, ⟨rfl, _, rfl⟩, rfl, _, rfl⟩

theorem witness_OnlyItsWritersChangeTheWorkRam :
    ((∃ t, exec (.power163 0) State.reset = .next t) ∧ roleOf (.power163 0) ≠ .wramStore ∧ roleOf (.power163 0) ≠ .restore ∧
      roleOf (.power163 0) ≠ .batload ∧ roleOf (.power163 0) ≠ .create ∧ roleOf (.power163 0) ≠ .teardown) ∧
    (∃ t, exec (.batload 0 ⟨8192, [(0, 0x11)]⟩) (sNew .v164 true) = .next t) ∧
    roleOf (.batload 0 ⟨8192, [(0, 0x11)]⟩) = .batload :=
  ⟨⟨⟨_, rfl⟩, by decide⟩, ⟨_, rfl⟩, rfl⟩

theorem witness_VariantBatteryAndParametersAreFixed :
    (∃ t, exec (.teardown 0) State.reset = .next t) ∧ roleOf (.teardown 0) ≠ .create := ⟨⟨_, rfl⟩, nofun⟩

/-- The UNLFS304 power-on keeps the reserved registers. -/
theorem witness_ReservedRegistersKeepTheirValues :
    (∃ t, exec (.powerFs304 0) (sFs { RegFile.zero with r5 := 0x99 }) = .next t) ∧
    (∀ n, Instr.powerFs304 0 ≠ .power164 n) ∧ (∀ n, Instr.powerFs304 0 ≠ .power163 n) ∧
    roleOf (.powerFs304 0) ≠ .restore ∧ roleOf (.powerFs304 0) ≠ .create :=
  ⟨⟨_, rfl⟩, nofun, nofun, nofun, nofun⟩

/-- A register write; and a strobe write that is no falling edge, after a zero. -/
theorem witness_OnlyItsWritersChangeTheLatch :
    ((∃ t, exec (.w163Reg3 0x5180 0x06) State.reset = .next t) ∧ roleOf (.w163Reg3 0x5180 0x06) ≠ .restore ∧
      roleOf (.w163Reg3 0x5180 0x06) ≠ .create ∧ roleOf (.w163Reg3 0x5180 0x06) ≠ .strobe ∧
      ∀ n, Instr.w163Reg3 0x5180 0x06 ≠ .power163 n) ∧
    ((∃ t, exec (.w163Strobe 0x00) { State.reset with lastStrobe := 0x00 } = .next t) ∧
      ¬(Instr.w163Strobe 0x00 = .w163Strobe 0x00 ∧ ({ State.reset with lastStrobe := 0x00 } : State).lastStrobe ≠ 0x00)) :=
  ⟨⟨⟨_, rfl⟩, nofun, nofun, nofun, nofun⟩, ⟨_, rfl⟩, fun h => h.2 rfl⟩

theorem witness_SyncRunsWhereTheSpecSays :
    ((∃ t, exec (.restore 0 []) State.reset = .next t) ∧ syncs (roleOf (.restore 0 [])) = true) ∧
    (∃ t, exec (.w163Reg2 0x5300 0x01) State.reset = .next t) ∧ keepsWindows (roleOf (.w163Reg2 0x5300 0x01)) = true :=
  ⟨⟨⟨_, rfl⟩, rfl⟩, ⟨_, rfl⟩, rfl⟩

/-- The machine after reset with a work-RAM write to come, and its step. -/
theorem witness_StepKeepsTheInvariant :
    State.Inv { State.reset with pending := [.busw 0x60005A] } ∧
    ∃ t, step { State.reset with pending := [.busw 0x60005A] } = .next t :=
  ⟨⟨rfl, fun _ => ⟨rfl, .inl rfl, .inl ⟨rfl, rfl⟩⟩, fun h => absurd rfl h, nofun, nofun, nofun⟩, _, rfl⟩

theorem witness_StrobeRunCountsFallingEdges : State.reset.readyAs .v163 := ⟨rfl, rfl⟩

theorem witness_ScanlineEventsAreIdempotent :
    decode .v163 (.evt (0x01#8 ++ 239#16) .none) = .ok .ev163Sl239 ∧
    ∃ t, exec .ev163Sl239 (s163 (regs 0 0x80 0 0)) = .next t := ⟨by decide, _, rfl⟩

/-- A write of `reg[2]`, a strobe write and an override keep the forced bank; a write of `reg[1]` ends it. -/
theorem witness_ForcedBankLastsUntilSync :
    (s163 (regs 2 0x80 0 0)).readyAs .v163 ∧
    ∃ t u w, exec .w163ForcePrg (s163 (regs 2 0x80 0 0)) = .next t ∧
      (∀ j ∈ [Instr.w163Reg2 0x5300 0x11, .w163Strobe 0xFF, .ev163Sl239],
        keepsWindows (roleOf j) = true ∨ roleOf j = .override ∨ roleOf j = .forcePrg) ∧
      execAll [.w163Reg2 0x5300 0x11, .w163Strobe 0xFF, .ev163Sl239] t = .next u ∧
      syncs (roleOf (.w163Reg1 0x5000 0x00)) = true ∧ exec (.w163Reg1 0x5000 0x00) u = .next w :=
  ⟨⟨rfl, rfl⟩, _, _, _, rfl, by simp [roleOf, keepsWindows], rfl, rfl, rfl⟩

/-- Both overrides; a write of `reg[2]` and the quirk keep them, a write of `reg[0]` ends them. -/
theorem witness_OverrideLastsUntilSync :
    (s163 (regs 0 0x80 0 0)).readyAs .v163 ∧ (s163 (regs 0 0x80 0 0)).reg.r1.getLsbD 7 = true ∧
    ∀ o ∈ [Instr.ev163Sl239, .ev163Sl127], ∃ t u w, exec o (s163 (regs 0 0x80 0 0)) = .next t ∧
      (∀ j ∈ [Instr.w163Reg2 0x5300 0x01, .w163ForcePrg], keepsWindows (roleOf j) = true ∨ roleOf j = .forcePrg) ∧
      execAll [.w163Reg2 0x5300 0x01, .w163ForcePrg] t = .next u ∧
      syncs (roleOf (.w163Reg0 0x5200 0x00)) = true ∧ exec (.w163Reg0 0x5200 0x00) u = .next w :=
  ⟨⟨rfl, rfl⟩, by decide, by
    simp only [List.forall_mem_cons]
    exact ⟨⟨_, _, _, rfl, by simp [roleOf, keepsWindows], rfl, rfl, rfl⟩,
      ⟨_, _, _, rfl, by simp [roleOf, keepsWindows], rfl, rfl, rfl⟩, nofun⟩⟩

/-- Another instance of the same variant, with other contents. -/
theorem witness_SaveThenRestoreReproducesTheSavedState :
    s164.boardReady ∧ State.fs304Formulas { s164 with reg := RegFile.zero, trigger := 0x01 } = s164.fs304Formulas ∧ State.phase { s164 with reg := RegFile.zero, trigger := 0x01 } = .running ∧
    State.variant { s164 with reg := RegFile.zero, trigger := 0x01 } = s164.variant ∧
    ∃ s' fs, exec (.save 0) s164 = .next s' ∧ s'.out = .saved fs :=
  ⟨⟨nofun, rfl⟩, rfl, rfl, rfl, _, _, rfl, rfl⟩

theorem witness_BatteryImageIsReadableAfterPowerOn :
    Variant.v164 ≠ .vTemplate ∧ Bytes.wf ⟨8192, [(1, 0x22)]⟩ = true ∧ (⟨8192, [(1, 0x22)]⟩ : Bytes).size = 8192 ∧
    (0x6001 : Addr).extractLsb' 13 3 = 0x3#3 := by decide

/-- A read, a battery save and the template's save. -/
theorem witness_LastStrobeIsHidden :
    (roleOf (.r163Trig 0x5500) ≠ .strobe ∧ (∀ n, Instr.r163Trig 0x5500 ≠ .save n) ∧
      ∃ t, exec (.r163Trig 0x5500) State.reset = .next t) ∧
    (roleOf (.batsave 0) ≠ .strobe ∧ (∀ n, Instr.batsave 0 ≠ .save n) ∧ ∃ t, exec (.batsave 0) State.reset = .next t) ∧
    (roleOf (.saveT 0) ≠ .strobe ∧ (∀ n, Instr.saveT 0 ≠ .save n) ∧ ∃ t, exec (.saveT 0) sT = .next t) :=
  ⟨⟨nofun, nofun, _, rfl⟩, ⟨nofun, nofun, _, rfl⟩, nofun, nofun, _, rfl⟩

theorem witness_PseudoTransactionsDoWhatTheyName :
    s164.readyAs .v164 ∧ State.reset.readyAs .v163 ∧ (sFs RegFile.zero).readyAs .vFS304 :=
  ⟨⟨rfl, rfl⟩, ⟨rfl, rfl⟩, ⟨rfl, rfl⟩⟩

theorem witness_InterruptRequestChangesNothingElse :
    ∃ t, exec (.evtSl 5) sT = .next t ∧ t.out = .irqAssert := ⟨_, rfl, rfl⟩

end Sys2Proof.Tests
end

section
/-! PROOF. The statements of the encoding family: first what the decoder makes of each bus range and what a delivery runs,
then the bank formulas as appended fields, then the obligations. -/

namespace Sys2Proof

/-! ## The decoder, by bus range (30_encoding.md R98) -/

/-- An address below the configuration range is in no range the decoders test. -/
theorem low_ranges {a : Addr} (h : a.toNat < 0x5000) :
    isPrgAddr a = false ∧ isWramAddr a = false ∧ isCfgAddr a = false := by
  refine ⟨?_, ?_, ?_⟩
  all_goals
    simp only [isPrgAddr, isWramAddr, isCfgAddr, decide_eq_false_iff_not]
    intro hc
    have hbits := congrArg BitVec.toNat hc
    simp only [BitVec.extractLsb'_toNat, Nat.shiftRight_eq_div_pow, BitVec.toNat_ofNat] at hbits
    omega

theorem decodeBusWrite_wram (v : Variant) {a : Addr} (d : Byte) (h : a.extractLsb' 13 3 = 0x3#3) :
    decodeBusWrite v a d = .ok (decodeWramWrite v a d) := by
  obtain ⟨hprg, hwram⟩ := wram_ranges h
  simp [decodeBusWrite, hprg, hwram]

theorem decodeBusRead_wram (v : Variant) {a : Addr} (h : a.extractLsb' 13 3 = 0x3#3) :
    decodeBusRead v a = .ok (decodeWramRead v a) := by
  obtain ⟨hprg, hwram⟩ := wram_ranges h
  simp [decodeBusRead, hprg, hwram]

theorem decodeBusWrite_prg (v : Variant) {a : Addr} (d : Byte) (h : a.extractLsb' 15 1 = 0x1#1) :
    decodeBusWrite v a d = .ok (.prgW a d) := by
  simp [decodeBusWrite, isPrgAddr, h]

theorem decodeBusRead_prg (v : Variant) {a : Addr} (h : a.extractLsb' 15 1 = 0x1#1) :
    decodeBusRead v a = .ok (.prgR a) := by
  simp [decodeBusRead, isPrgAddr, h]

theorem decodeBusWrite_low (v : Variant) {a : Addr} (d : Byte) (h : a.toNat < 0x5000) :
    decodeBusWrite v a d = .error .notDelivered := by
  obtain ⟨hprg, hwram, hcfg⟩ := low_ranges h
  simp [decodeBusWrite, hprg, hwram, hcfg]

theorem decodeBusRead_low (v : Variant) {a : Addr} (h : a.toNat < 0x5000) :
    decodeBusRead v a = .error .notDelivered := by
  obtain ⟨hprg, hwram, hcfg⟩ := low_ranges h
  simp [decodeBusRead, hprg, hwram, hcfg]

theorem decodePatternFetch_low {p : Addr} (h : p.toNat < 0x2000) : decodePatternFetch p = .ok (.chrR p) := by
  have hp : p.extractLsb' 13 3 = 0x0#3 := by
    apply BitVec.eq_of_toNat_eq
    rw [BitVec.extractLsb'_toNat, Nat.shiftRight_eq_div_pow, BitVec.toNat_ofNat]
    omega
  simp [decodePatternFetch, hp]

@[simp] theorem decode_busr (v : Variant) (a : Addr) : decode v (.busr a) = decodeBusRead v a := rfl

@[simp] theorem decode_ppur (v : Variant) (p : Addr) : decode v (.ppur p) = decodePatternFetch p := rfl

/-- Settles O3, range by range: each range's test succeeds on its addresses and the tests before it fail. -/
theorem busRangesDecodeToTheirRows : Obligations.BusRangesDecodeToTheirRows := by
  intro v a p d
  simp only [decode_busw, decode_busr, decode_ppur]
  refine ⟨fun ha hv => ?_, fun ha hv => ?_, fun ha => ?_, decodePatternFetch_low, fun ha i => ?_⟩
  · rw [decodeBusWrite_wram v d ha, decodeBusRead_wram v ha]
    simp [decodeWramWrite, decodeWramRead, hv]
  · rw [decodeBusWrite_wram v d ha, decodeBusRead_wram v ha]
    simp [decodeWramWrite, decodeWramRead, hv]
  · exact ⟨decodeBusRead_prg v ha, decodeBusWrite_prg v d ha⟩
  · simp [decodeBusWrite_low v d ha, decodeBusRead_low v ha]

namespace Machine

/-! ## Deliveries run one after the other -/

/-- The state a delivered transaction runs on: it has left the queue, and nothing else is pending. -/
def State.drained (s : State) : State := { s with pending := [] }

/-- A delivery that decodes runs its instruction on the drained state. -/
theorem deliverAll_cons {s t : State} {v : Variant} {dl : Delivery} {i : Instr} {dls : List Delivery}
    (hv : s.variant = v) (hd : decode v dl = .ok i) (he : exec i s.drained = .next t) :
    deliverAll (dl :: dls) s = deliverAll dls t := by
  have hstep : step { s with pending := [dl] } = .next t := by
    subst hv
    simp only [step, hd]
    exact he
  simp [deliverAll, hstep]

/-- A configuration write delivered in phase `Running` has the effect `f` of the row the variant's write decoder gives it. -/
theorem deliverAll_cfgWrite {s : State} {v : Variant} {a : Addr} {d : Byte} {f : State → State} {dls : List Delivery}
    (ha : a.extractLsb' 12 4 = 0x5#4) (hf : ∀ u, exec (decodeCfgWrite v a d) u = runningIn v u (f u))
    (hs : s.readyAs v) :
    deliverAll (wr a d :: dls) s = deliverAll dls (f s.drained) :=
  deliverAll_cons hs.1 (by rw [decode_wr, decodeBusWrite_cfg v d ha]) ((hf _).trans (runningIn_ready hs))

/-- A delivered configuration write whose row writes register `r` and then runs `sync`. -/
theorem deliverAll_regWrite {s : State} {v : Variant} {a : Addr} {d : Byte} {dls : List Delivery} (r : RegName)
    (sync : State → State) (ha : a.extractLsb' 12 4 = 0x5#4)
    (hrow : ∀ u, exec (decodeCfgWrite v a d) u = runningIn v u (sync (u.quiet.setReg r d))) (hs : s.readyAs v) :
    deliverAll (wr a d :: dls) s = deliverAll dls (sync (s.drained.quiet.setReg r d)) :=
  deliverAll_cfgWrite (f := fun u => sync (u.quiet.setReg r d)) ha hrow hs

/-- A delivered strobe write. -/
theorem deliverAll_strobe {s : State} {dls : List Delivery} (d : Byte) (hs : s.readyAs .v163) :
    deliverAll (wr 0x5101 d :: dls) s =
      deliverAll dls (s.drained.quiet.setLatch d (strobeTrigger s.lastStrobe s.trigger d)) :=
  deliverAll_cfgWrite (f := fun u => u.quiet.setLatch d (strobeTrigger u.lastStrobe u.trigger d)) (by decide)
    (fun _ => rfl) hs

theorem readyAs_regWriteAB {s : State} {v : Variant} (r : RegName) (d : Byte) (h : s.readyAs v) :
    (s.drained.quiet.setReg r d).syncAB.readyAs v := h

theorem readyAs_regWriteC {s : State} {v : Variant} (r : RegName) (d : Byte) (h : s.readyAs v) :
    (s.drained.quiet.setReg r d).syncC.readyAs v := h

/-! ## The bank formulas as appended fields (41_bank_sync.md R161, R166) -/

theorem append_eq_shiftLeft_or {n m : Nat} (x : BitVec n) (y : BitVec m) :
    x ++ y = x.setWidth (n + m) <<< m ||| y.setWidth (n + m) := by
  rw [← BitVec.setWidth_append_eq_shiftLeft_setWidth_or, BitVec.setWidth_eq]

theorem and_lowNibble (x : Byte) : x &&& 0x0F = (x.extractLsb' 0 4).setWidth 8 := by
  have hmask : x.toNat &&& 15 = x.toNat % 16 := Nat.and_two_pow_sub_one_eq_mod x.toNat 4
  apply BitVec.eq_of_toNat_eq
  rw [BitVec.toNat_and, show BitVec.toNat (0x0F : Byte) = 15 from rfl, hmask, BitVec.toNat_setWidth,
    BitVec.extractLsb'_toNat, Nat.shiftRight_zero]
  omega

/-- Formula A is `{reg[0], reg[1][3:0]}`. -/
theorem formulaA_eq_append (f : RegFile) : formulaA f = f.r0 ++ f.r1.extractLsb' 0 4 := by
  rw [formulaA, and_lowNibble, BitVec.setWidth_setWidth (by decide)]
  exact (append_eq_shiftLeft_or f.r0 (f.r1.extractLsb' 0 4)).symm

/-- Formula A gives bank `b` when the registers hold its two fields. -/
theorem formulaA_eq_bank {f : RegFile} {b : BitVec 12} (hhigh : f.r0 = b.extractLsb' 4 8)
    (hlow : f.r1.extractLsb' 0 4 = b.extractLsb' 0 4) : formulaA f = b := by
  rw [formulaA_eq_append, hhigh, hlow]
  exact BitVec.extractLsb'_append_extractLsb' (w := 8)

/-- Case 5/7 is `{reg[2][3:0], reg[0][3:0]}`. The model's mask of `reg[0]` is a cast numeral. -/
theorem fsCase57_eq_append (f : RegFile) : fsCase57 f = f.r2.extractLsb' 0 4 ++ f.r0.extractLsb' 0 4 := by
  have hr0 : f.r0 &&& ((15 : Nat) : Byte) = (f.r0.extractLsb' 0 4).setWidth 8 := and_lowNibble f.r0
  rw [fsCase57, hr0, and_lowNibble, BitVec.or_comm]
  exact (append_eq_shiftLeft_or (f.r2.extractLsb' 0 4) (f.r0.extractLsb' 0 4)).symm

/-- Formula C in case 5/7 gives bank `b` when the registers hold its two nibbles, under any `FS304_FORMULAS`. -/
theorem formulaC_eq_bank (p : Fs304Formulas) {f : RegFile} {b : Byte} (hcase : f.r3 = 0x05)
    (hhigh : f.r2.extractLsb' 0 4 = b.extractLsb' 4 4)
    (hlow : f.r0.extractLsb' 0 4 = b.extractLsb' 0 4) : formulaC p f = 0#4 ++ b := by
  have hindex : fsCase57 f = b := by
    rw [fsCase57_eq_append, hhigh, hlow]
    exact BitVec.extractLsb'_append_extractLsb' (w := 4)
  rw [formulaC_eq (b2 := true) (b0 := true) (by rw [hcase]; rfl) (by rw [hcase]; rfl)]
  simp only [hindex]
  exact BitVec.setWidth_eq_append (by decide)

/-! ## The strobe edge (43_protection_latch.md R211) -/

theorem strobeTrigger_of_ne (last trigger : Byte) {d : Byte} (h : d ≠ 0x00) :
    strobeTrigger last trigger d = trigger :=
  if_neg (by rw [fallingEdge, decide_eq_false h, Bool.and_false]; exact Bool.false_ne_true)

theorem strobeTrigger_fall {last : Byte} (trigger : Byte) (h : last ≠ 0x00) :
    strobeTrigger last trigger 0x00 = trigger ^^^ 0x01 :=
  if_pos (by rw [fallingEdge, decide_eq_true h]; rfl)

/-! ## The pseudo-transactions (30_encoding.md R102) -/

/-- The byte `SETPRG163` writes to `reg[1]` has the bank's low nibble below. -/
theorem splitByte_lowNibble (split : Bool) (x : BitVec 4) :
    (BitVec.ofBool split ++ (0#3 ++ x) : Byte).extractLsb' 0 4 = x := by
  rw [BitVec.extractLsb'_append_eq_of_add_le (by decide), extract_append_low]

/-- The byte `SETPRG163` writes to `reg[1]` has the split flag on top. -/
theorem splitByte_bit7 (split : Bool) (x : BitVec 4) :
    (BitVec.ofBool split ++ (0#3 ++ x) : Byte).getLsbD 7 = split := by
  rw [BitVec.getLsbD_append]
  cases split <;> rfl

theorem setPrg164_prgWin {s : State} (b : BitVec 12) (h : s.readyAs .v164) :
    ∃ t, deliverAll [wr 0x5100 (b.extractLsb' 4 8), wr 0x5000 (0#4 ++ b.extractLsb' 0 4)] s = .next t ∧
      t.prgWin = some b := by
  have h₁ := readyAs_regWriteAB .r0 (b.extractLsb' 4 8) h
  refine ⟨_, (deliverAll_regWrite .r0 State.syncAB (by decide) (fun _ => rfl) h).trans
    (deliverAll_regWrite .r1 State.syncAB (by decide) (fun _ => rfl) h₁), ?_⟩
  exact congrArg some (formulaA_eq_bank rfl (extract_append_low _ _))

theorem setPrg163_prgWin {s : State} (b : BitVec 12) (split : Bool) (h : s.readyAs .v163) :
    ∃ t, deliverAll [wr 0x5200 (b.extractLsb' 4 8), wr 0x5000 (BitVec.ofBool split ++ (0#3 ++ b.extractLsb' 0 4))] s =
        .next t ∧ t.prgWin = some b ∧ t.reg.r1.getLsbD 7 = split := by
  have h₁ := readyAs_regWriteAB .r0 (b.extractLsb' 4 8) h
  refine ⟨_, (deliverAll_regWrite .r0 State.syncAB (by decide) (fun _ => rfl) h).trans
    (deliverAll_regWrite .r1 State.syncAB (by decide) (fun _ => rfl) h₁), ?_, ?_⟩
  · exact congrArg some (formulaA_eq_bank rfl (splitByte_lowNibble split _))
  · exact splitByte_bit7 split _

/-- The first write of `SETPRGFS` selects case 5/7. -/
theorem setPrgFs_prgWin {s : State} (b : Byte) (h : s.readyAs .vFS304) :
    ∃ t, deliverAll [wr 0x5300 0x05, wr 0x5000 (0#4 ++ b.extractLsb' 0 4), wr 0x5200 (0#4 ++ b.extractLsb' 4 4)] s =
        .next t ∧ t.prgWin = some (0#4 ++ b) := by
  have h₁ := readyAs_regWriteC .r3 0x05 h
  have h₂ := readyAs_regWriteC .r0 (0#4 ++ b.extractLsb' 0 4) h₁
  refine ⟨_, ((deliverAll_regWrite .r3 State.syncC (by decide) (fun _ => rfl) h).trans
    (deliverAll_regWrite .r0 State.syncC (by decide) (fun _ => rfl) h₁)).trans
    (deliverAll_regWrite .r2 State.syncC (by decide) (fun _ => rfl) h₂), ?_⟩
  exact congrArg some (formulaC_eq_bank _ rfl (extract_append_low _ _) (extract_append_low _ _))

/-- The first write of `TOGGLE163` is no edge and makes the second one an edge. -/
theorem toggle163_trigger {s : State} (h : s.readyAs .v163) :
    ∃ t, deliverAll [wr 0x5101 0x01, wr 0x5101 0x00] s = .next t ∧ t.trigger = s.trigger ^^^ 0x01 := by
  refine ⟨_, (deliverAll_strobe 0x01 h).trans (deliverAll_strobe 0x00 h), ?_⟩
  calc strobeTrigger 0x01 (strobeTrigger s.lastStrobe s.trigger 0x01) 0x00
      = strobeTrigger s.lastStrobe s.trigger 0x01 ^^^ 0x01 := strobeTrigger_fall _ (by decide)
    _ = s.trigger ^^^ 0x01 := by rw [strobeTrigger_of_ne _ _ (by decide)]

/-- Settles O59: each expansion's writes run one after the other and leave what the pseudo-transaction names. -/
theorem pseudoTransactionsDoWhatTheyName : Obligations.PseudoTransactionsDoWhatTheyName :=
  ⟨fun _ b h => setPrg164_prgWin b h, fun _ b split h => setPrg163_prgWin b split h,
    fun _ b h => setPrgFs_prgWin b h, fun _ h => toggle163_trigger h⟩

end Machine
end Sys2Proof
end

section
/-! PROOF. The statements of the write-decoder family: first the write decoders and the offsets of the windows, then what a
row of a ready instance does, then the obligations. -/

namespace Sys2Proof.Machine

/-! ## The write decoders by register select (40_write_decoder.md R121-R131) -/

theorem decodeWrite164_sel0 {a : Addr} (d : Byte) (h : a.extractLsb' 8 2 = 0#2) : decodeWrite164 a d = .w164Reg1 a d := by
  simp [decodeWrite164, writeSel, h]

theorem decodeWrite164_sel1 {a : Addr} (d : Byte) (h : a.extractLsb' 8 2 = 1#2) : decodeWrite164 a d = .w164Reg0 a d := by
  simp [decodeWrite164, writeSel, h]

theorem decodeWrite164_sel2 {a : Addr} (d : Byte) (h : a.extractLsb' 8 2 = 2#2) : decodeWrite164 a d = .w164Reg3 a d := by
  simp [decodeWrite164, writeSel, h]

theorem decodeWrite164_sel3 {a : Addr} (d : Byte) (h : a.extractLsb' 8 2 = 3#2) : decodeWrite164 a d = .w164Reg2 a d := by
  simp [decodeWrite164, writeSel, h]

/-- Outside the strobe port and the quirk pair, variant 163's decoder looks at the register select alone. -/
theorem decodeWrite163_ordinary {a : Addr} {d : Byte} (hstrobe : a ≠ 0x5101) (hquirk : ¬(a = 0x5100 ∧ d = 0x06)) :
    decodeWrite163 a d =
      if writeSel a = 0 then .w163Reg1 a d
      else if writeSel a = 1 then .w163Reg3 a d
      else if writeSel a = 2 then .w163Reg0 a d
      else .w163Reg2 a d := by
  rw [decodeWrite163, if_neg hstrobe, if_neg hquirk]

/-! ## The offsets of the windows (20_memory.md R62-R64) -/

theorem wramOffset_eq_sub {a : Addr} (h : a.extractLsb' 13 3 = 0x3#3) : wramOffset a = a.toNat - 0x6000 := by
  have hrange := congrArg BitVec.toNat h
  simp only [BitVec.extractLsb'_toNat, Nat.shiftRight_eq_div_pow, BitVec.toNat_ofNat] at hrange
  rw [wramOffset, BitVec.extractLsb'_toNat, Nat.shiftRight_zero]
  omega

theorem prgOffset_eq_sub {a : Addr} (h : a.extractLsb' 15 1 = 0x1#1) : prgOffset a = a.toNat - 0x8000 := by
  have hrange := congrArg BitVec.toNat h
  simp only [BitVec.extractLsb'_toNat, Nat.shiftRight_eq_div_pow, BitVec.toNat_ofNat] at hrange
  rw [prgOffset, BitVec.extractLsb'_toNat, Nat.shiftRight_zero]
  omega

/-- In the pattern space, the half-window is the upper one from 0x1000 on. -/
theorem chrUpper_iff {p : Addr} (h : p.toNat < 0x2000) : chrUpper p = true ↔ 0x1000 ≤ p.toNat := by
  rw [chrUpper, decide_eq_true_iff, ← BitVec.toNat_inj, BitVec.extractLsb'_toNat, Nat.shiftRight_eq_div_pow,
    BitVec.toNat_ofNat]
  omega

theorem chrBank_lower {s : State} {p : Addr} (h : p.toNat < 0x1000) : s.chrBank p = s.chrLo := by
  have hlow : ¬chrUpper p = true := by
    rw [chrUpper_iff (by omega)]
    omega
  exact if_neg hlow

theorem chrBank_upper {s : State} {p : Addr} (h : p.toNat < 0x2000) (hp : 0x1000 ≤ p.toNat) : s.chrBank p = s.chrHi :=
  if_pos ((chrUpper_iff h).mpr hp)

theorem chrBank_none {s : State} (p : Addr) (hlo : s.chrLo = none) (hhi : s.chrHi = none) : s.chrBank p = none := by
  rw [State.chrBank, hlo, hhi, ite_self]

theorem chrOffset_eq_mod (p : Addr) : chrOffset p = p.toNat % 0x1000 := by
  rw [chrOffset, BitVec.extractLsb'_toNat, Nat.shiftRight_zero]

/-! ## What a row of a ready instance does (40_write_decoder.md R120) -/

/-- A configuration write of a ready instance is the row its write decoder gives, and runs to that row's state. -/
theorem cfgWrite_ready {s t : State} {v : Variant} {a : Addr} {d : Byte} {i : Instr} (hs : s.readyAs v)
    (ha : a.extractLsb' 12 4 = 0x5#4) (hrow : decodeCfgWrite v a d = i) (hi : exec i s = runningIn v s t) :
    decode v (.busw (a ++ d)) = .ok i ∧ exec i s = .next t := by
  rw [decode_busw, decodeBusWrite_cfg v d ha, hrow]
  exact ⟨rfl, hi.trans (runningIn_ready hs)⟩

/-- A register write followed by SYNC_AB, said by the concatenation of 41_bank_sync.md R161. -/
theorem setReg_syncAB_eq_syncedA (s : State) (r : RegName) (d : Byte) :
    (s.quiet.setReg r d).syncAB = s.syncedA (s.reg.set d r) :=
  congrArg (fun b => (s.quiet.setReg r d).pushWindows b) (formulaA_eq_append (s.reg.set d r))

/-- A configuration write whose row writes register `r` and then runs SYNC_AB. -/
theorem cfgWrite_syncedA {s : State} {v : Variant} {a : Addr} {d : Byte} {i : Instr} (r : RegName) (hs : s.readyAs v)
    (ha : a.extractLsb' 12 4 = 0x5#4) (hrow : decodeCfgWrite v a d = i)
    (hi : exec i s = runningIn v s (s.quiet.setReg r d).syncAB) :
    decode v (.busw (a ++ d)) = .ok i ∧ exec i s = .next (s.syncedA (s.reg.set d r)) := by
  rw [← setReg_syncAB_eq_syncedA]
  exact cfgWrite_ready hs ha hrow hi

/-- An undriven read leaves some byte on the bus and counts some number of draws. -/
theorem next_undriven (s : State) :
    ∃ b k, (.next s.undriven : Result) = .next { s with out := .undriven b, draws := k } :=
  ⟨_, _, rfl⟩

/-- A row that ends undriven, in a ready instance. -/
theorem exec_undriven {s : State} {v : Variant} {i : Instr} (hs : s.readyAs v)
    (hi : exec i s = runningIn v s s.undriven) :
    ∃ b k, exec i s = .next { s with out := .undriven b, draws := k } := by
  rw [hi, runningIn_ready hs]
  exact next_undriven s

theorem storeWram_mapped {s : State} (k : Nat) (v : Byte) (h : s.wramWin = true) :
    s.storeWram k v = s.setWram (s.wram.write k v) := if_pos h

theorem loadWram_mapped {s : State} (k : Nat) (h : s.wramWin = true) : s.loadWram k = s.drive (s.wram.read k) := if_pos h

theorem exec_wramW_mapped {s : State} (a : Addr) (d : Byte) (hs : s.boardReady) (hw : s.wramWin = true) :
    exec (.wramW a d) s = .next (s.quiet.setWram (s.wram.write (wramOffset a) d)) :=
  (runningBoard_ready hs).trans (congrArg _ (storeWram_mapped (s := s.quiet) _ d hw))

theorem exec_wramR_mapped {s : State} (a : Addr) (hs : s.boardReady) (hw : s.wramWin = true) :
    exec (.wramR a) s = .next (s.drive (s.wram.read (wramOffset a))) :=
  (runningBoard_ready hs).trans (congrArg _ (loadWram_mapped _ hw))

theorem exec_prgR_some {s : State} {idx : BitVec 12} (a : Addr) (hs : s.phase = .running) (hw : s.prgWin = some idx) :
    exec (.prgR a) s = .next (s.drive (Config.prgRom (prgRomAddr Config.prg32Mask idx a))) := by
  simp only [exec, execPrgR, whenRunning_running hs, hw]

theorem exec_prgR_none {s : State} (a : Addr) (hs : s.phase = .running) (hw : s.prgWin = none) :
    exec (.prgR a) s = .next s.undriven := by
  simp only [exec, execPrgR, whenRunning_running hs, hw]

theorem exec_chrR_some {s : State} {idx : Byte} {p : Addr} (hs : s.phase = .running) (hb : s.chrBank p = some idx) :
    exec (.chrR p) s = .next (s.drive (Config.chrMem (chrMemAddr Config.chr4Mask idx p))) := by
  simp only [exec, execChrR, whenRunning_running hs, hb]

theorem exec_chrR_none {s : State} {p : Addr} (hs : s.phase = .running) (hb : s.chrBank p = none) :
    exec (.chrR p) s = .next s.undriven := by
  simp only [exec, execChrR, whenRunning_running hs, hb]

/-! ## The obligations -/

/-- Settles O9: the register select names the row, and each row is a register write with SYNC_AB, but for `reg[2]`. -/
theorem write164SetsItsRegister : Obligations.Write164SetsItsRegister := by
  intro s a d hs ha
  refine ⟨fun hsel => ?_, fun hsel => ?_, fun hsel => ?_, fun hsel => ?_⟩
  · exact cfgWrite_syncedA .r1 hs ha (decodeWrite164_sel0 d hsel) rfl
  · exact cfgWrite_syncedA .r0 hs ha (decodeWrite164_sel1 d hsel) rfl
  · exact cfgWrite_syncedA .r3 hs ha (decodeWrite164_sel2 d hsel) rfl
  · exact cfgWrite_ready hs ha (decodeWrite164_sel3 d hsel) rfl

/-- Settles O10: outside the strobe port and the quirk pair the register select names the row, and each row is a register
write with SYNC_AB, but for `reg[2]`. -/
theorem write163SetsItsRegister : Obligations.Write163SetsItsRegister := by
  intro s a d hs ha hstrobe hquirk
  have hdec : decodeCfgWrite .v163 a d = _ := decodeWrite163_ordinary hstrobe hquirk
  refine ⟨fun hsel => ?_, fun hsel => ?_, fun hsel => ?_, fun hsel => ?_⟩
  · exact cfgWrite_syncedA .r1 hs ha (by simp [hdec, writeSel, hsel]) rfl
  · exact cfgWrite_syncedA .r3 hs ha (by simp [hdec, writeSel, hsel]) rfl
  · exact cfgWrite_syncedA .r0 hs ha (by simp [hdec, writeSel, hsel]) rfl
  · exact cfgWrite_ready hs ha (by simp [hdec, writeSel, hsel]) rfl

/-- Settles O11: the word is the quirk pair, and forcing bank 3 in a state that has it writes what is there. -/
theorem prgQuirkForcesBankThree : Obligations.PrgQuirkForcesBankThree := by
  intro s hs
  obtain ⟨hdec, hexec⟩ := cfgWrite_ready (a := 0x5100) (d := 0x06) hs (by decide) rfl rfl
  exact ⟨hdec, hexec, runningIn_ready hs⟩

/-- Settles O14, row by row: each ends in the state with nothing handed out. -/
theorem ignoredWritesAndSoftResetChangeNothing : Obligations.IgnoredWritesAndSoftResetChangeNothing := by
  intro s a d n
  refine ⟨fun hs ha => ?_, fun hs ha => ?_, fun hs ha => ?_, ?_, fun hs => ?_, fun hs => ?_, fun hs => ?_⟩
  · exact cfgWrite_ready hs ha rfl rfl
  · exact ⟨by rw [decode_busw, decodeBusWrite_wram _ d ha]; rfl, runningIn_ready hs⟩
  · exact ⟨by rw [decode_busw, decodeBusWrite_prg _ d ha], whenRunning_running hs⟩
  · rw [decode_evt]
    rfl
  · exact whenRunning_running hs
  · exact whenRunning_created hs
  · exact whenRunning_tornDown hs

/-- Settles O20: each of the four rows ends undriven. -/
theorem undrivenReadsChangeNothing : Obligations.UndrivenReadsChangeNothing := by
  intro s a
  simp only [decode_busr]
  refine ⟨fun hs ha => ?_, fun hs ha => ?_, fun hs ha => ?_, fun hs ha => ?_⟩
  · exact ⟨decodeBusRead_cfg _ ha, exec_undriven hs rfl⟩
  · exact ⟨decodeBusRead_cfg _ ha, exec_undriven hs rfl⟩
  · exact ⟨decodeBusRead_cfg _ ha, exec_undriven hs rfl⟩
  · exact ⟨decodeBusRead_wram _ ha, exec_undriven hs rfl⟩

/-- Settles O21, by reading the byte array after the write at the offset and elsewhere. -/
theorem wramWriteStoresItsByte : Obligations.WramWriteStoresItsByte := by
  intro s a d hs hw hwf ha
  have hdec : decode s.variant (.busw (a ++ d)) = .ok (.wramW a d) := by
    rw [decode_busw, decodeBusWrite_wram _ d ha, decodeWramWrite, if_neg hs.1]
  refine ⟨hdec, wramOffset_eq_sub ha, _, exec_wramW_mapped a d hs hw, rfl, ?_, fun k hk => ?_⟩
  · exact Memory.read_write_same d hwf
  · exact Memory.read_write_other s.wram d hk

/-- Settles O22: the row drives the byte at its offset, and the offset is `A - 0x6000`. -/
theorem wramReadDrivesItsByte : Obligations.WramReadDrivesItsByte := by
  intro s a hs hw ha
  rw [decode_busr, decodeBusRead_wram _ ha, decodeWramRead, if_neg hs.1, ← wramOffset_eq_sub ha]
  exact ⟨rfl, exec_wramR_mapped a hs hw⟩

/-- Settles O24, by whether a bank was pushed. -/
theorem prgReadGoesThroughTheWindow : Obligations.PrgReadGoesThroughTheWindow := by
  intro s a hs ha
  refine ⟨decodeBusRead_prg _ ha, fun idx hw => ?_, fun hw => ?_⟩
  · rw [exec_prgR_some a hs hw, prgRomAddr, prgOffset_eq_sub ha]
    rfl
  · rw [exec_prgR_none a hs hw]
    exact next_undriven s

/-- Settles O25, by the half-window of the fetch and whether banks were pushed. -/
theorem patternFetchGoesThroughItsHalf : Obligations.PatternFetchGoesThroughItsHalf := by
  intro s p lo hi hs hp
  refine ⟨decodePatternFetch_low hp, fun hchr hlow => ?_, fun hchr hup => ?_, fun hlo hhi => ?_⟩
  · have hoff : chrOffset p = p.toNat := by rw [chrOffset_eq_mod, Nat.mod_eq_of_lt hlow]
    rw [exec_chrR_some hs ((chrBank_lower hlow).trans hchr.1), chrMemAddr, hoff]
    rfl
  · have hoff : chrOffset p = p.toNat - 0x1000 := by
      rw [chrOffset_eq_mod]
      omega
    rw [exec_chrR_some hs ((chrBank_upper hp hup).trans hchr.2), chrMemAddr, hoff]
    rfl
  · rw [exec_chrR_none hs (chrBank_none p hlo hhi)]
    exact next_undriven s

end Sys2Proof.Machine
end

section
/-! PROOF. The statements of the bank-synchronizer family: first the formulas of UNLFS304 as appended fields and formula
C in each of its cases, then what Sync pushes and leaves alone, then the obligations. -/

namespace Sys2Proof.Machine

/-! ## The default formulas of UNLFS304 as appended fields (41_bank_sync.md R167-R169) -/

/-- Case 0/2 is `{reg[2][3:0], reg[0][3:2], reg[1][1], 0}`, index bit by index bit. -/
theorem fsCase02_eq_append (f : RegFile) :
    fsCase02 f = f.r2.extractLsb' 0 4 ++ (f.r0.extractLsb' 2 2 ++ (f.r1.extractLsb' 1 1 ++ 0#1)) := by
  apply BitVec.eq_of_getLsbD_eq
  intro i hi
  rw [fsCase02, BitVec.getLsbD_append, BitVec.getLsbD_append, BitVec.getLsbD_append]
  interval_cases i <;> simp

/-- Case 1/3 is `{reg[2][3:0], reg[0][3:2], 0, 0}`, index bit by index bit. -/
theorem fsCase13_eq_append (f : RegFile) :
    fsCase13 f = f.r2.extractLsb' 0 4 ++ (f.r0.extractLsb' 2 2 ++ 0#2) := by
  apply BitVec.eq_of_getLsbD_eq
  intro i hi
  rw [fsCase13, BitVec.getLsbD_append, BitVec.getLsbD_append]
  interval_cases i <;> simp

/-- Case 4/6 is `{reg[2][3:0], reg[0][3:1], reg[1][1]}`, index bit by index bit. -/
theorem fsCase46_eq_append (f : RegFile) :
    fsCase46 f = f.r2.extractLsb' 0 4 ++ (f.r0.extractLsb' 1 3 ++ f.r1.extractLsb' 1 1) := by
  apply BitVec.eq_of_getLsbD_eq
  intro i hi
  rw [fsCase46, BitVec.getLsbD_append, BitVec.getLsbD_append]
  interval_cases i <;> simp

/-! ## Formula C in each case (41_bank_sync.md R164-R169) -/

theorem formulaC_case57 (p : Fs304Formulas) {f : RegFile} (h2 : f.r3.getLsbD 2 = true) (h0 : f.r3.getLsbD 0 = true) :
    formulaC p f = 0#4 ++ (f.r2.extractLsb' 0 4 ++ f.r0.extractLsb' 0 4) := by
  rw [formulaC_eq h2 h0, ← fsCase57_eq_append]
  exact BitVec.setWidth_eq_append (by decide)

theorem formulaC_case02 {f : RegFile} (h2 : f.r3.getLsbD 2 = false) (h0 : f.r3.getLsbD 0 = false) :
    formulaC .standard f =
      0#4 ++ (f.r2.extractLsb' 0 4 ++ (f.r0.extractLsb' 2 2 ++ (f.r1.extractLsb' 1 1 ++ 0#1))) := by
  rw [formulaC_eq h2 h0, ← fsCase02_eq_append]
  exact BitVec.setWidth_eq_append (by decide)

theorem formulaC_case13 {f : RegFile} (h2 : f.r3.getLsbD 2 = false) (h0 : f.r3.getLsbD 0 = true) :
    formulaC .standard f = 0#4 ++ (f.r2.extractLsb' 0 4 ++ (f.r0.extractLsb' 2 2 ++ 0#2)) := by
  rw [formulaC_eq h2 h0, ← fsCase13_eq_append]
  exact BitVec.setWidth_eq_append (by decide)

theorem formulaC_case46 {f : RegFile} (h2 : f.r3.getLsbD 2 = true) (h0 : f.r3.getLsbD 0 = false) :
    formulaC .standard f = 0#4 ++ (f.r2.extractLsb' 0 4 ++ (f.r0.extractLsb' 1 3 ++ f.r1.extractLsb' 1 1)) := by
  rw [formulaC_eq h2 h0, ← fsCase46_eq_append]
  exact BitVec.setWidth_eq_append (by decide)

/-- The selector's bits 2 and 0, when `reg[3][2:0]` is one of two values that agree in them (41_bank_sync.md R165). -/
theorem selector_bits {x : Byte} {k k' : BitVec 3} {b2 b0 : Bool} (h : x.extractLsb' 0 3 = k ∨ x.extractLsb' 0 3 = k')
    (hk : k.getLsbD 2 = b2 ∧ k.getLsbD 0 = b0) (hk' : k'.getLsbD 2 = b2 ∧ k'.getLsbD 0 = b0) :
    x.getLsbD 2 = b2 ∧ x.getLsbD 0 = b0 := by
  have hbit : ∀ i < 3, x.getLsbD i = (x.extractLsb' 0 3).getLsbD i := fun i hi => by simp [hi]
  rw [hbit 2 (by decide), hbit 0 (by decide)]
  rcases h with h | h <;> rw [h]
  · exact hk
  · exact hk'

/-! ## Register fields bit by bit, as the table lists them (41_bank_sync.md R173) -/

theorem extractLsb'_one_eq_ofBool (x : Byte) (i : Nat) : x.extractLsb' i 1 = BitVec.ofBool (x.getLsbD i) := by
  apply BitVec.eq_of_getLsbD_eq
  intro j hj
  obtain rfl : j = 0 := by omega
  simp

/-- A field with its lowest bit apart. -/
theorem extractLsb'_succ (x : Byte) (i n : Nat) :
    x.extractLsb' i (n + 1) = x.extractLsb' (i + 1) n ++ BitVec.ofBool (x.getLsbD i) := by
  rw [← extractLsb'_one_eq_ofBool]
  exact (BitVec.extractLsb'_append_extractLsb'_eq_extractLsb' rfl).symm

/-! ## Sync (41_bank_sync.md R160, R174) -/

theorem State.sync_eq_syncAB {s : State} (h : s.variant = .v164 ∨ s.variant = .v163) : s.sync = s.syncAB := by
  rcases h with h | h <;> rw [State.sync, h]

theorem State.sync_eq_syncC {s : State} (h : s.variant = .vFS304) : s.sync = s.syncC := by
  rw [State.sync, h]

theorem State.sync_of_template {s : State} (h : s.variant = .vTemplate) : s.sync = s := by
  rw [State.sync, h, State.syncT_eq]

theorem State.sync_sync (s : State) : s.sync.sync = s.sync := by
  rcases s.sync_cases with ⟨hv, h⟩ | ⟨hv, h⟩ | ⟨-, h⟩ <;> rw [h]
  · exact State.sync_eq_syncAB (s := s.syncAB) hv
  · exact State.sync_eq_syncC (s := s.syncC) hv
  · exact h

/-- Sync touches the window outputs alone. -/
theorem State.sync_frame (s : State) :
    s.sync =
      { s with prgWin := s.sync.prgWin, chrLo := s.sync.chrLo, chrHi := s.sync.chrHi, wramWin := s.sync.wramWin } := by
  rcases s.sync_cases with ⟨-, h⟩ | ⟨-, h⟩ | ⟨-, h⟩ <;> rw [h] <;> rfl

theorem formulaA_congr {f g : RegFile} (h0 : f.r0 = g.r0) (h1 : f.r1 = g.r1) : formulaA f = formulaA g := by
  rw [formulaA, h0, h1, formulaA]

theorem formulaC_congr (p : Fs304Formulas) {f g : RegFile} (h0 : f.r0 = g.r0) (h1 : f.r1 = g.r1) (h2 : f.r2 = g.r2)
    (h3 : f.r3 = g.r3) : formulaC p f = formulaC p g := by
  obtain ⟨r0, r1, r2, r3, _, _, _, _⟩ := f
  subst h0 h1 h2 h3
  rfl

/-- Two whole pushes of one PRG index give the same windows. -/
theorem sameWindows_pushWindows (s u : State) {b c : BitVec 12} (h : b = c) :
    sameWindows (s.pushWindows b) (u.pushWindows c) :=
  ⟨congrArg some h.symm, rfl, rfl, rfl⟩

theorem sameWindows_sync {s u : State} (hv : s.variant = u.variant) (ht : s.variant ≠ .vTemplate)
    (hp : s.fs304Formulas = u.fs304Formulas) (h0 : s.reg.r0 = u.reg.r0) (h1 : s.reg.r1 = u.reg.r1)
    (h2 : s.reg.r2 = u.reg.r2) (h3 : s.reg.r3 = u.reg.r3) : sameWindows s.sync u.sync := by
  rcases s.sync_cases with ⟨hs, h⟩ | ⟨hs, h⟩ | ⟨hs, -⟩
  · rw [h, State.sync_eq_syncAB (hv ▸ hs)]
    exact sameWindows_pushWindows s u (formulaA_congr h0 h1)
  · rw [h, State.sync_eq_syncC (hv ▸ hs)]
    exact sameWindows_pushWindows s u (by rw [hp, formulaC_congr _ h0 h1 h2 h3])
  · exact absurd hs ht

/-! ## The obligations -/

/-- Settles O15: formula A is the concatenation, and at each of the two corners the concatenation is of known fields. -/
theorem formulaAConcatenates : Obligations.FormulaAConcatenates :=
  ⟨formulaA_eq_append, fun _ h0 h1 => formulaA_eq_bank h0 (by rw [h1]; rfl),
    fun _ h0 h1 => formulaA_eq_bank h0 (by rw [h1]; rfl)⟩

/-- Settles O16: in each case the selector's value fixes the two bits that choose the formula. -/
theorem formulaCInEachCase : Obligations.FormulaCInEachCase := by
  intro p f
  refine ⟨fun h => ?_, fun h => ?_, fun h => ?_, fun h => ?_⟩ <;>
    obtain ⟨h2, h0⟩ := selector_bits h ⟨rfl, rfl⟩ ⟨rfl, rfl⟩
  · exact formulaC_case57 p h2 h0
  · exact formulaC_case02 h2 h0
  · exact formulaC_case13 h2 h0
  · exact formulaC_case46 h2 h0

/-- Settles O17, by the selector's two bits: in each case the formula's fields are the table's column. -/
theorem formulaCAgreesWithTheBitTable : Obligations.FormulaCAgreesWithTheBitTable := by
  intro f
  rw [tableIndex, tableBit1, tableBit0]
  cases h2 : f.r3.getLsbD 2 <;> cases h0 : f.r3.getLsbD 0
  · rw [formulaC_case02 h2 h0, extractLsb'_one_eq_ofBool]
    rfl
  · have hzero : 0#2 = BitVec.ofBool false ++ BitVec.ofBool false := rfl
    rw [formulaC_case13 h2 h0, hzero]
  · rw [formulaC_case46 h2 h0, extractLsb'_one_eq_ofBool, extractLsb'_succ f.r0 1 2, BitVec.append_assoc]
    rfl
  · rw [formulaC_case57 .standard h2 h0, extractLsb'_succ f.r0 0 3, extractLsb'_succ f.r0 1 2, BitVec.append_assoc]
    rfl

/-- Settles O19, by what Sync is on each variant. -/
theorem syncIsPureAndIdempotent : Obligations.SyncIsPureAndIdempotent :=
  ⟨State.sync_sync, State.sync_frame, fun _ _ => sameWindows_sync, fun _ => State.sync_of_template⟩

end Sys2Proof.Machine
end

section
/-! PROOF. The statements of the scanline-hook family: first what the decoder makes of a scanline event, then the split-CHR
override with the mode flag set and clear and a transaction delivered twice, then the obligations. -/

namespace Sys2Proof

/-! ## Scanline events decoded (30_encoding.md R94) -/

/-- Event code 0x01 is the scanline event of the instance's variant. -/
theorem decode_scanlineEvent (v : Variant) (n : Operand) :
    decode v (.evt (0x01#8 ++ n) .none) = .ok (decodeScanline v n) := by
  rw [decode_evt]
  rfl

theorem decodeScanline_other {n : Operand} (h239 : n ≠ 239) (h127 : n ≠ 127) :
    decodeScanline .v163 n = .ev163SlOther n := by
  rw [decodeScanline, if_neg h239, if_neg h127]

namespace Machine

/-! ## The split-CHR override (42_scanline_hook.md R191, R192) -/

theorem State.scanlineOverride_of_split {s : State} (b : Byte) (h : s.reg.r1.getLsbD 7 = true) :
    s.scanlineOverride b = s.overrideChr b := if_pos h

theorem State.scanlineOverride_of_not_split {s : State} (b : Byte) (h : s.reg.r1.getLsbD 7 = false) :
    s.scanlineOverride b = s := if_neg (ne_true_of_eq_false h)

theorem State.readyAs_scanlineOverride {s : State} {v : Variant} (b : Byte) (h : s.readyAs v) :
    (s.scanlineOverride b).readyAs v := by
  rw [s.scanlineOverride_eq b]
  exact h

/-- A row that overrides the CHR windows, in split-CHR mode. -/
theorem exec_override_of_split {s : State} {v : Variant} {i : Instr} {b : Byte} (hs : s.readyAs v)
    (hsplit : s.reg.r1.getLsbD 7 = true) (hexec : exec i s = runningIn v s (s.quiet.scanlineOverride b)) :
    exec i s = .next (s.quiet.overrideChr b) := by
  rw [hexec, runningIn_ready hs, State.scanlineOverride_of_split (s := s.quiet) b hsplit]

/-- A row that overrides the CHR windows, with the mode flag clear. -/
theorem exec_override_of_not_split {s : State} {v : Variant} {i : Instr} {b : Byte} (hs : s.readyAs v)
    (hsplit : s.reg.r1.getLsbD 7 = false) (hexec : exec i s = runningIn v s (s.quiet.scanlineOverride b)) :
    exec i s = .next s.quiet := by
  rw [hexec, runningIn_ready hs, State.scanlineOverride_of_not_split (s := s.quiet) b hsplit]

/-- Overriding again to the same bank finds both halves there already. -/
theorem State.scanlineOverride_quiet_scanlineOverride (s : State) (b : Byte) :
    (s.quiet.scanlineOverride b).quiet.scanlineOverride b = s.quiet.scanlineOverride b := by
  rcases s.quiet.scanlineOverride_cases b with ⟨hsplit, h⟩ | ⟨-, h⟩
  · rw [h]
    exact State.scanlineOverride_of_split b hsplit
  · rw [h]
    exact h

/-! ## A transaction delivered twice (42_scanline_hook.md R199) -/

/-- An instruction whose effect keeps the instance ready and is idempotent takes the state it ends in to itself. -/
theorem exec_repeats {s t : State} {v : Variant} {i : Instr} (f : State → State)
    (hexec : ∀ u, exec i u = runningIn v u (f u)) (hready : ∀ u, u.readyAs v → (f u).readyAs v)
    (hidem : ∀ u, f (f u) = f u) (h : exec i s = .next t) : exec i t = .next t := by
  rw [hexec] at h
  obtain ⟨hs, rfl⟩ := runningIn_next h
  rw [hexec, runningIn_ready (hready s hs), hidem]

/-- A row without an effect. -/
theorem exec_repeats_of_quiet {s t : State} {v : Variant} {i : Instr} (hexec : ∀ u, exec i u = runningIn v u u.quiet)
    (h : exec i s = .next t) : exec i t = .next t :=
  exec_repeats State.quiet hexec (fun _ hu => hu) (fun _ => rfl) h

/-- A row that overrides the CHR windows. -/
theorem exec_repeats_of_override {s t : State} {v : Variant} {i : Instr} (b : Byte)
    (hexec : ∀ u, exec i u = runningIn v u (u.quiet.scanlineOverride b)) (h : exec i s = .next t) :
    exec i t = .next t :=
  exec_repeats (fun u => u.quiet.scanlineOverride b) hexec
    (fun u hu => State.readyAs_scanlineOverride (s := u.quiet) b hu)
    (fun u => u.scanlineOverride_quiet_scanlineOverride b) h

/-- Variant 163's event, by its scanline number. -/
theorem exec_scanline163_repeats {s t : State} {n : Operand} (h : exec (decodeScanline .v163 n) s = .next t) :
    exec (decodeScanline .v163 n) t = .next t := by
  by_cases h239 : n = 239
  · subst h239
    exact exec_repeats_of_override 0 (fun _ => rfl) h
  by_cases h127 : n = 127
  · subst h127
    exact exec_repeats_of_override 1 (fun _ => rfl) h
  rw [decodeScanline_other h239 h127] at h ⊢
  exact exec_repeats_of_quiet (fun _ => rfl) h

/-! ## The obligations -/

/-- Settles O53, by variant: an event has no effect, overrides the CHR windows or requests an interrupt, and each of these
is idempotent. -/
theorem scanlineEventsAreIdempotent : Obligations.ScanlineEventsAreIdempotent := by
  intro s t v n i hdec h
  rw [decode_scanlineEvent] at hdec
  obtain rfl := Except.ok.inj hdec
  cases v with
  | v164 => exact exec_repeats_of_quiet (fun _ => rfl) h
  | v163 => exact exec_scanline163_repeats h
  | vFS304 => exact exec_repeats_of_quiet (fun _ => rfl) h
  | vTemplate => exact exec_repeats State.assertIrq (fun _ => rfl) (fun _ hu => hu) (fun _ => rfl) h

/-- Settles O27: the override is its push with the mode flag set and nothing with it clear. -/
theorem scanlineHook163OverridesChr : Obligations.ScanlineHook163OverridesChr := by
  intro s n hs
  refine ⟨decode_scanlineEvent .v163 239, decode_scanlineEvent .v163 127, fun hsplit => ?_, fun hsplit => ?_,
    fun h239 h127 => ?_⟩
  · exact ⟨exec_override_of_split hs hsplit rfl, exec_override_of_split hs hsplit rfl⟩
  · exact ⟨exec_override_of_not_split hs hsplit rfl, exec_override_of_not_split hs hsplit rfl⟩
  · rw [decode_scanlineEvent, decodeScanline_other h239 h127]
    exact ⟨rfl, runningIn_ready hs⟩

/-- Settles O28: in a ready instance each of the three rows runs to its own state. -/
theorem otherScanlineEventsMoveNothing : Obligations.OtherScanlineEventsMoveNothing := by
  intro s n
  simp only [decode_scanlineEvent]
  exact ⟨fun hs => ⟨rfl, runningIn_ready hs⟩, fun hs => ⟨rfl, runningIn_ready hs⟩,
    fun hs => ⟨rfl, runningIn_ready hs⟩⟩

end Machine
end Sys2Proof
end

section
/-! PROOF. The statements of the protection-latch family: first the strobe edge and the bytes of the read ports, then
variant 163's read decoder and what a read row does, then the obligations. -/

namespace Sys2Proof.Machine

/-! ## The strobe edge (43_protection_latch.md R211) -/

theorem fallingEdge_iff {last d : Byte} : fallingEdge last d = true ↔ last ≠ 0x00 ∧ d = 0x00 := by
  rw [fallingEdge, Bool.and_eq_true, decide_eq_true_iff, decide_eq_true_iff]

theorem strobeTrigger_of_not_fall {last d : Byte} (trigger : Byte) (h : ¬(last ≠ 0x00 ∧ d = 0x00)) :
    strobeTrigger last trigger d = trigger :=
  if_neg (mt fallingEdge_iff.mp h)

/-! ## The bytes of the read ports (43_protection_latch.md R215, R216) -/

theorem triggerPort_set {s : State} (h : s.trigger ≠ 0x00) : triggerPort s = s.reg.r2 ||| s.reg.r1 :=
  if_pos (decide_eq_true h)

theorem triggerPort_clear {s : State} (h : s.trigger = 0x00) : triggerPort s = 0x00 := by
  rw [triggerPort, triggerSet, h]
  rfl

theorem statusPort_eq (f : RegFile) : statusPort f = f.r2 ||| f.r0 ||| f.r1 ||| ~~~f.r3 :=
  congrArg (f.r2 ||| f.r0 ||| f.r1 ||| ·) (BitVec.xor_allOnes (x := f.r3))

/-! ## Variant 163's read decoder (43_protection_latch.md R214) -/

theorem decodeRead163_trig {a : Addr} (h : a.extractLsb' 8 3 = 5#3) : decodeRead163 a = .r163Trig a := by
  simp [decodeRead163, readSel, h]

theorem decodeRead163_status {a : Addr} (h : a.extractLsb' 8 3 = 1#3) : decodeRead163 a = .r163Status a := by
  simp [decodeRead163, readSel, h]

theorem decodeRead163_default {a : Addr} (h1 : a.extractLsb' 8 3 ≠ 1#3) (h5 : a.extractLsb' 8 3 ≠ 5#3) :
    decodeRead163 a = .r163Default a := by
  simp [decodeRead163, readSel, h1, h5]

/-! ## What a read row does (43_protection_latch.md R218) -/

/-- A configuration read of a ready instance is the row its read decoder gives, and runs to that row's state. -/
theorem cfgRead_ready {s t : State} {v : Variant} {a : Addr} {i : Instr} (hs : s.readyAs v)
    (ha : a.extractLsb' 12 4 = 0x5#4) (hrow : decodeCfgRead v a = i) (hi : exec i s = runningIn v s t) :
    decode v (.busr a) = .ok i ∧ exec i s = .next t := by
  rw [decode_busr, decodeBusRead_cfg v ha, hrow]
  exact ⟨rfl, hi.trans (runningIn_ready hs)⟩

/-- A read changes what is handed out and the count of draws alone. -/
theorem exec_read_eq {s t : State} {i : Instr} (hi : roleOf i = .read) (h : exec i s = .next t) :
    ∃ o n, t = { s with out := o, draws := n } := by
  cases i with
  | r163Trig _ | r163Status _ | r163Default _ | r164Cfg _ | rfsCfg _ | rtCfg _ | wtWramR _ =>
    obtain ⟨-, rfl⟩ := exec_next h
    exact ⟨_, _, rfl⟩
  | wramR a =>
    obtain ⟨-, rfl⟩ := exec_next h
    obtain ⟨o, n, hload, -⟩ := s.loadWram_eq (wramOffset a)
    exact ⟨o, n, hload⟩
  | prgR _ | chrR _ =>
    obtain ⟨-, o, n, rfl, -⟩ := exec_next h
    exact ⟨o, n, rfl⟩
  | _ => exact nomatch hi

/-! ## The obligations -/

/-- Settles O41: what a read hands out and the count of draws are no block state. -/
theorem readsChangeNoBlockState : Obligations.ReadsChangeNoBlockState := by
  intro s t i hi h
  obtain ⟨o, n, rfl⟩ := exec_read_eq hi h
  exact ⟨rfl, ⟨rfl, rfl⟩, ⟨rfl, rfl, rfl, rfl⟩, ⟨rfl, rfl, rfl⟩, ⟨rfl, rfl, rfl, rfl⟩, rfl⟩

/-- Settles O12: the row writes the latch alone, with `trigger` inverted in bit 0 or as it was by the edge test. -/
theorem strobeTogglesOnFallingEdge : Obligations.StrobeTogglesOnFallingEdge := by
  intro s d hs
  obtain ⟨hdec, hexec⟩ := cfgWrite_ready (a := 0x5101) (i := .w163Strobe d) hs (by decide) rfl rfl
  refine ⟨hdec, fun ⟨hlast, hd⟩ => ?_, fun hedge => ?_⟩
  · subst hd
    rw [hexec, strobeTrigger_fall _ hlast]
    rfl
  · rw [hexec, strobeTrigger_of_not_fall _ hedge]
    rfl

/-- Settles O26: `A[10:8]` names the row, and each row drives its port's byte. -/
theorem readPorts163DriveTheirBytes : Obligations.ReadPorts163DriveTheirBytes := by
  intro s a hs ha
  refine ⟨fun hsel => ?_, fun hsel => ?_, fun h1 h5 => ?_⟩
  · obtain ⟨hdec, hexec⟩ := cfgRead_ready hs ha (decodeRead163_trig hsel) rfl
    refine ⟨hdec, fun hset => ?_, fun hclear => ?_⟩
    · rw [hexec, triggerPort_set hset]
      rfl
    · rw [hexec, triggerPort_clear hclear]
      rfl
  · rw [← statusPort_eq]
    exact cfgRead_ready hs ha (decodeRead163_status hsel) rfl
  · exact cfgRead_ready hs ha (decodeRead163_default h1 h5) rfl

end Sys2Proof.Machine
end

section
/-! PROOF. The statements of the persistence family: first the save and restore events decoded, then what a set of fields
loads, what Sync keeps and when two window assignments agree, then the save, restore and battery rows, then the
obligations. -/

namespace Sys2Proof

/-! ## Saves and restores decoded (30_encoding.md R94) -/

/-- Event code 0x04 is the save of the instance's variant. -/
theorem decode_saveEvent (v : Variant) (n : Operand) :
    decode v (.evt (0x04#8 ++ n) .none) = .ok (decodeSave v n) := by
  rw [decode_evt]
  rfl

/-- Event code 0x05 with a set of fields is the restore of the instance's variant. -/
theorem decode_restoreEvent (v : Variant) (n : Operand) {fs : List SavedField} (h : fieldsWf fs = true) :
    decode v (.evt (0x05#8 ++ n) (.fields fs)) = .ok (if v = .vTemplate then .restoreT n fs else .restore n fs) := by
  rw [decode_evt]
  exact if_pos h

theorem decodeSave_board {v : Variant} (n : Operand) (h : v ≠ .vTemplate) : decodeSave v n = .save n := if_neg h

namespace Machine

/-! ## What a set of fields loads (44_persistence.md R231, R234) -/

theorem State.loadFields_lastStrobe (s : State) (fs : List SavedField) :
    (s.loadFields fs).lastStrobe = (fieldOf .stb fs).elim s.lastStrobe (·.get 0) := by
  simp only [State.loadFields]
  cases fieldOf .stb fs <;> rfl

theorem State.loadFields_trigger (s : State) (fs : List SavedField) :
    (s.loadFields fs).trigger = (fieldOf .trg fs).elim s.trigger (·.get 0) := by
  simp only [State.loadFields]
  cases fieldOf .trg fs <;> rfl

theorem State.loadFields_reg (s : State) (fs : List SavedField) :
    (s.loadFields fs).reg = (fieldOf .regs fs).elim s.reg RegFile.ofBytes := by
  simp only [State.loadFields]
  cases fieldOf .regs fs <;> rfl

theorem State.loadFields_wram (s : State) (fs : List SavedField) :
    (s.loadFields fs).wram = (fieldOf .wram fs).elim s.wram Bytes.cells := by
  simp only [State.loadFields]
  cases fieldOf .wram fs <;> rfl

theorem fieldSizesRight_savedFields (s : State) : fieldSizesRight s.savedFields := (restorable_iff _).mp rfl

/-- The saved fields of `s` carry its registers, latch and work RAM into any state. -/
theorem State.loadFields_savedFields (u s : State) :
    u.loadFields s.savedFields =
      { u with reg := s.reg, lastStrobe := s.lastStrobe, trigger := s.trigger, wram := s.wram } := by
  have hstb : (Bytes.ofList [s.lastStrobe]).get 0 = s.lastStrobe := Bytes.get_ofList _ 0
  have htrg : (Bytes.ofList [s.trigger]).get 0 = s.trigger := Bytes.get_ofList _ 0
  simp [State.loadFields, State.savedFields, fieldOf, hstb, htrg]

/-! ## What Sync keeps and what it pushes (41_bank_sync.md R160, R163) -/

@[simp] theorem State.sync_reg (s : State) : s.sync.reg = s.reg := by rw [s.sync_frame]
@[simp] theorem State.sync_lastStrobe (s : State) : s.sync.lastStrobe = s.lastStrobe := by rw [s.sync_frame]
@[simp] theorem State.sync_trigger (s : State) : s.sync.trigger = s.trigger := by rw [s.sync_frame]
@[simp] theorem State.sync_wram (s : State) : s.sync.wram = s.wram := by rw [s.sync_frame]
@[simp] theorem State.sync_out (s : State) : s.sync.out = s.out := by rw [s.sync_frame]
@[simp] theorem State.sync_draws (s : State) : s.sync.draws = s.draws := by rw [s.sync_frame]

theorem sameInstance_sync (s : State) : sameInstance s s.sync := by
  rw [s.sync_frame]
  exact ⟨rfl, rfl, rfl⟩

theorem sameSurroundings_sync (s : State) : sameSurroundings s s.sync := by
  rw [s.sync_frame]
  exact ⟨rfl, rfl, rfl, rfl⟩

/-- Sync of a board maps the work RAM and pushes the 8 KiB CHR bank 0. -/
theorem State.sync_board {s : State} (h : s.variant ≠ .vTemplate) : s.sync.wramWin = true ∧ s.sync.chrIs 0 1 := by
  rcases s.sync_cases with ⟨-, hsync⟩ | ⟨-, hsync⟩ | ⟨ht, -⟩
  · rw [hsync]
    exact ⟨rfl, rfl, rfl⟩
  · rw [hsync]
    exact ⟨rfl, rfl, rfl⟩
  · exact absurd ht h

/-! ## When window assignments agree (44_persistence.md R236) -/

theorem sameWindows_congr_right {s t u : State} (h : sameWindows t u) : sameWindows s u ↔ sameWindows s t := by
  obtain ⟨hprg, hlo, hhi, hwram⟩ := h
  rw [sameWindows, hprg, hlo, hhi, hwram, sameWindows]

/-- The windows are those Sync computes exactly when Sync leaves the state as it is. -/
theorem sameWindows_sync_iff (s : State) : sameWindows s s.sync ↔ s.sync = s := by
  constructor
  · intro ⟨hprg, hlo, hhi, hwram⟩
    rw [s.sync_frame, hprg, hlo, hhi, hwram]
  · intro h
    rw [h]
    exact ⟨rfl, rfl, rfl, rfl⟩

/-! ## What the persistence rows do (44_persistence.md R232-R238) -/

theorem exec_restore_ready {s : State} {fs : List SavedField} (n : Operand) (hs : s.boardReady)
    (hfs : fieldSizesRight fs) : exec (.restore n fs) s = .next (s.quiet.loadFields fs).sync := by
  rw [exec, execRestore, whenRunning_running hs.2, forBoard_board hs.1]
  exact if_pos ((restorable_iff fs).mpr hfs)

theorem exec_restore_wrongSize {s : State} {fs : List SavedField} (n : Operand) (hs : s.boardReady)
    (hfs : ¬fieldSizesRight fs) : exec (.restore n fs) s = .refused .badStateField := by
  rw [exec, execRestore, whenRunning_running hs.2, forBoard_board hs.1]
  exact if_neg (mt (restorable_iff fs).mp hfs)

theorem withBattery_backed {s : State} {k : Result} (hb : s.battery = true) (hv : s.variant ≠ .vTemplate) :
    withBattery s k = k := if_pos ⟨hb, hv⟩

theorem withBattery_none {s : State} {k : Result} (h : s.battery = false ∨ s.variant = .vTemplate) :
    withBattery s k = .refused .noBattery := by
  refine if_neg fun ⟨hb, hv⟩ => ?_
  rcases h with h | h
  · exact absurd hb (ne_true_of_eq_false h)
  · exact hv h

/-! ## The obligations -/

/-- Settles O56: the restore ends in Sync of a state with the saved registers, latch and work RAM; what Sync computes there
is what it computes in the saved state. -/
theorem saveThenRestoreReproducesTheSavedState : Obligations.SaveThenRestoreReproducesTheSavedState := by
  intro s s' u n m fs hs hphase hvariant hsave hout
  obtain ⟨-, rfl⟩ := exec_next hsave
  obtain rfl : s.savedFields = fs := Output.saved.inj hout
  have hu : u.boardReady := ⟨hvariant ▸ hs.1, hphase⟩
  refine ⟨_, exec_restore_ready m hu (fieldSizesRight_savedFields s), ?_⟩
  rw [State.loadFields_savedFields]
  refine ⟨State.sync_reg _, State.sync_lastStrobe _, State.sync_trigger _, State.sync_wram _, State.sync_sync _,
    fun hformulas => ?_⟩
  have hwindows := sameWindows_sync (s := s)
    (u := { u.quiet with reg := s.reg, lastStrobe := s.lastStrobe, trigger := s.trigger, wram := s.wram })
    hvariant.symm hs.1 hformulas.symm rfl rfl rfl rfl
  exact ⟨hwindows, (sameWindows_congr_right hwindows).trans (sameWindows_sync_iff s)⟩

/-- Settles O32: a byte of a saved field is the byte of the list it is made from. -/
theorem saveReturnsTheTaggedFields : Obligations.SaveReturnsTheTaggedFields := by
  intro s n
  simp only [decode_saveEvent]
  refine ⟨fun hs => ⟨?_, ?_⟩, fun hs => ⟨rfl, runningIn_ready hs⟩,
    fun hp => ⟨whenRunning_created hp, whenRunning_created hp⟩,
    fun hp => ⟨whenRunning_tornDown hp, whenRunning_tornDown hp⟩⟩
  · rw [decodeSave_board n hs.1]
  · have hreg := Bytes.get_ofList [s.reg.r0, s.reg.r1, s.reg.r2, s.reg.r3, s.reg.r4, s.reg.r5, s.reg.r6, s.reg.r7]
    exact ⟨_, _, _, _, _, runningBoard_ready hs, rfl, rfl, Bytes.get_ofList _ 0, rfl, Bytes.get_ofList _ 0, rfl,
      hreg 0, hreg 1, hreg 2, hreg 3, hreg 4, hreg 5, hreg 6, hreg 7, rfl, fun _ => rfl⟩

/-- Settles O33: the restore ends in Sync of the loaded fields, and each loaded field is the set's or the one before. -/
theorem restoreLoadsFieldsThenSyncs : Obligations.RestoreLoadsFieldsThenSyncs := by
  intro s n fs
  refine ⟨fun hs hwf hsizes => ?_, exec_restore_wrongSize n, whenRunning_created, whenRunning_tornDown⟩
  obtain ⟨hwin, hchr⟩ := State.sync_board (s := s.quiet.loadFields fs) hs.1
  refine ⟨(decode_restoreEvent s.variant n hwf).trans (congrArg _ (if_neg hs.1)), _, exec_restore_ready n hs hsizes,
    (State.sync_sync _).symm, sameInstance_sync (s.quiet.loadFields fs), sameSurroundings_sync (s.quiet.loadFields fs),
    State.sync_out _, State.sync_draws _, hwin, hchr, ?_⟩
  simp only [State.sync_lastStrobe, State.sync_trigger, State.sync_reg, State.sync_wram, State.loadFields_lastStrobe,
    State.loadFields_trigger, State.loadFields_reg, State.loadFields_wram]
  refine ⟨fun b h => ?_, fun h => ?_, fun b h => ?_, fun h => ?_, fun b h => ?_, fun h => ?_, fun b h k => ?_, fun h => ?_⟩ <;>
    rw [h] <;> rfl

/-- Settles O34: the template's row is its own and ends in the state with nothing handed out. -/
theorem templateRestoreChangesNothing : Obligations.TemplateRestoreChangesNothing :=
  fun _ n _ hs hwf => ⟨decode_restoreEvent .vTemplate n hwf, runningIn_ready hs⟩

/-- Settles O36: outside phase `TornDown` the row is its battery test, and the image lists the work RAM's own cells. -/
theorem batterySaveReturnsTheWorkRam : Obligations.BatterySaveReturnsTheWorkRam := by
  intro s n hp
  have hexec : exec (.batsave n) s = withBattery s _ := whenPowerable_live hp
  refine ⟨?_, fun hb hv => ?_, fun h => ?_⟩
  · rw [decode_evt]
    rfl
  · exact ⟨_, hexec.trans (withBattery_backed hb hv), rfl, fun _ => rfl⟩
  · exact hexec.trans (withBattery_none h)

end Machine
end Sys2Proof
end

section
/-! PROOF. The statement of the lifecycle family: first what a teardown leaves and what a torn-down instance refuses, then
the obligation. -/

namespace Sys2Proof.Machine

/-! ## The end of an instance (45_lifecycle.md R256) -/

/-- A teardown of a live instance leaves every field but the work RAM, the windows, the phase and the output. -/
theorem exec_teardown_live {s : State} (n : Operand) (h : s.phase ≠ .tornDown) :
    exec (.teardown n) s = .next { s with
      wram := [], prgWin := none, chrLo := none, chrHi := none, wramWin := false, phase := .tornDown, out := .none } :=
  whenPowerable_live h

/-- After a teardown the phase test of each row but CREATE answers before its variant and battery tests. -/
theorem exec_tornDown {s : State} {i : Instr} (hs : s.phase = .tornDown) (hi : ∀ u b v, i ≠ .create u b v) :
    exec i s = .refused .tornDown := by
  cases i with
  | create u b v => exact absurd rfl (hi u b v)
  | power164 _ | power163 _ | powerFs304 _ | powerT _ | teardown _ | batsave _ => exact whenPowerable_tornDown hs
  | batload n image => rw [exec, execBatload, hs]
  | _ => exact whenRunning_tornDown hs

/-! ## The obligation -/

/-- Settles O31: a teardown runs to a state in phase `TornDown`, and in that phase every row but CREATE is refused. -/
theorem teardownEndsTheInstance : Obligations.TeardownEndsTheInstance := by
  intro s n
  refine ⟨?_, fun hs => exec_tornDown hs nofun, fun hs => ⟨exec_teardown_live n hs, fun t i ht hi => ?_⟩⟩
  · rw [decode_evt]
    rfl
  · obtain ⟨-, rfl⟩ := exec_next ht
    exact exec_tornDown rfl hi

end Sys2Proof.Machine
end

section
/-! PROOF. The statements of the reset-and-hazards family: first the lifecycle and battery events decoded, then what the
rows that move no window, override or Sync leave, then a forced PRG bank along a run and the power-on of a board, then the
obligations. -/

namespace Sys2Proof

/-! ## Lifecycle and battery events decoded (30_encoding.md R94) -/

/-- Event code 0x07 is the creation its operand names. -/
theorem decode_createEvent (v w : Variant) (upper : BitVec 13) (battery : Bool) :
    decode v (ev 0x07 (createOperand upper battery w)) = .ok (.create upper battery w) := by
  rw [decode_ev, ← decodeCreate_createOperand upper battery w]
  rfl

/-- Event code 0x02 is the power-on of the instance's variant. -/
theorem decode_powerEvent (v : Variant) (n : Operand) : decode v (ev 0x02 n) = .ok (decodePower v n) := by
  rw [decode_ev]
  rfl

/-- Event code 0x08 with an image of the work RAM's size is a battery load. -/
theorem decode_batloadEvent (v : Variant) (n : Operand) {image : Bytes} (hwf : image.wf = true)
    (hsize : image.size = 8192) : decode v (.evt (0x08#8 ++ n) (.image image)) = .ok (.batload n image) := by
  rw [decode_evt]
  exact if_pos ⟨hwf, hsize⟩

namespace Machine

/-! ## What a row leaves, by its role (10_state.md R40; 41_bank_sync.md R172) -/

/-- A row that moves no window stays in its instance too. -/
theorem exec_keepsWindows {s t : State} {i : Instr} (hi : keepsWindows (roleOf i) = true) (h : exec i s = .next t) :
    sameWindows s t ∧ sameInstance s t := by
  cases i with
  | r163Trig _ | r163Status _ | r163Default _ | r164Cfg _ | rfsCfg _ | rtCfg _ | wtWramR _ | wramR _ | prgR _ | chrR _ =>
    obtain ⟨o, n, rfl⟩ := exec_read_eq rfl h
    exact ⟨⟨rfl, rfl, rfl, rfl⟩, rfl, rfl, rfl⟩
  | w164Reg2 _ _ | w163Reg2 _ _ | w163Strobe _ | wtNop _ _ | wtWramW _ _ | prgW _ _ | ev163SlOther _ | ev164Sl _
  | evfsSl _ | evtSl _ | reset _ | save _ | saveT _ | restoreT _ _ =>
    obtain ⟨-, rfl⟩ := exec_next h
    exact ⟨⟨rfl, rfl, rfl, rfl⟩, rfl, rfl, rfl⟩
  | wramW a d =>
    obtain ⟨-, rfl⟩ := exec_next h
    rw [s.quiet.storeWram_eq (wramOffset a) d]
    exact ⟨⟨rfl, rfl, rfl, rfl⟩, rfl, rfl, rfl⟩
  | batload _ _ | batsave _ =>
    obtain ⟨-, -, -, rfl⟩ := exec_next h
    exact ⟨⟨rfl, rfl, rfl, rfl⟩, rfl, rfl, rfl⟩
  | _ => exact nomatch hi

/-- An override moves the CHR windows alone and stays in its instance. -/
theorem exec_override_frame {s t : State} {i : Instr} (hi : roleOf i = .override) (h : exec i s = .next t) :
    t.prgWin = s.prgWin ∧ t.wramWin = s.wramWin ∧ sameInstance s t := by
  cases i with
  | ev163Sl239 | ev163Sl127 =>
    obtain ⟨-, rfl⟩ := exec_next h
    rw [s.quiet.scanlineOverride_eq]
    exact ⟨rfl, rfl, rfl, rfl, rfl⟩
  | _ => exact nomatch hi

theorem State.sync_syncAB {s : State} (h : s.variant = .v164 ∨ s.variant = .v163) : s.syncAB.sync = s.syncAB :=
  State.sync_eq_syncAB (s := s.syncAB) h

theorem State.sync_syncC {s : State} (h : s.variant = .vFS304) : s.syncC.sync = s.syncC :=
  State.sync_eq_syncC (s := s.syncC) h

/-- A row that ends with a Sync leaves the windows Sync computes, in an instance of the same variant. -/
theorem exec_syncs {s t : State} {i : Instr} (hi : syncs (roleOf i) = true) (h : exec i s = .next t) :
    t.variant = s.variant ∧ t.sync = t := by
  cases i with
  | w164Reg1 _ _ | w164Reg0 _ _ | w164Reg3 _ _ =>
    obtain ⟨hs, rfl⟩ := exec_next h
    exact ⟨rfl, State.sync_syncAB (.inl hs.1)⟩
  | w163Reg1 _ _ | w163Reg3 _ _ | w163Reg0 _ _ =>
    obtain ⟨hs, rfl⟩ := exec_next h
    exact ⟨rfl, State.sync_syncAB (.inr hs.1)⟩
  | wfsReg0 _ _ | wfsReg1 _ _ | wfsReg2 _ _ | wfsReg3 _ _ =>
    obtain ⟨hs, rfl⟩ := exec_next h
    exact ⟨rfl, State.sync_syncC hs.1⟩
  | power164 _ =>
    obtain ⟨-, hv, rfl⟩ := exec_next h
    exact ⟨rfl, State.sync_syncAB (.inl hv)⟩
  | power163 _ =>
    obtain ⟨-, hv, rfl⟩ := exec_next h
    exact ⟨rfl, State.sync_syncAB (.inr hv)⟩
  | powerFs304 _ =>
    obtain ⟨-, hv, rfl⟩ := exec_next h
    exact ⟨rfl, State.sync_syncC hv⟩
  | powerT _ =>
    obtain ⟨-, hv, rfl⟩ := exec_next h
    exact ⟨rfl, State.sync_of_template hv⟩
  | restore _ fs =>
    obtain ⟨-, -, rfl⟩ := exec_next h
    exact ⟨(sameInstance_sync (s.quiet.loadFields fs)).1, State.sync_sync _⟩
  | _ => exact nomatch hi

/-! ## A forced PRG bank along a run (40_write_decoder.md R128; 70_reset_and_hazards.md R295) -/

/-- What every instruction of a run keeps holds at its end. -/
theorem execAll_keeps {P : State → Prop} {is : List Instr} {s u : State}
    (hstep : ∀ i ∈ is, ∀ s t, P s → exec i s = .next t → P t) (hs : P s) (h : execAll is s = .next u) : P u := by
  induction is generalizing s with
  | nil => exact next_inj.mp h ▸ hs
  | cons i is ih =>
    obtain ⟨t, hi, his⟩ := execAll_cons_next h
    rw [List.forall_mem_cons] at hstep
    exact ih hstep.2 (hstep.1 s t hs hi) his

/-- A running variant-163 instance with the quirk's bank in the PRG window. -/
def State.prgForced (s : State) : Prop := s.readyAs .v163 ∧ s.prgWin = some 3

theorem exec_forcePrg_prgForced {s t : State} {i : Instr} (hi : roleOf i = .forcePrg) (h : exec i s = .next t) :
    t.prgForced := by
  cases i with
  | w163ForcePrg =>
    obtain ⟨hs, rfl⟩ := exec_next h
    exact ⟨hs, rfl⟩
  | _ => exact nomatch hi

theorem prgForced_of_sameInstance {s t : State} (hs : s.prgForced) (hprg : t.prgWin = s.prgWin)
    (h : sameInstance s t) : t.prgForced := by
  obtain ⟨⟨hv, hp⟩, hwin⟩ := hs
  obtain ⟨hvariant, -, hphase⟩ := h
  exact ⟨⟨hvariant.trans hv, hphase.trans hp⟩, hprg.trans hwin⟩

/-- Rows that neither Sync nor make or end an instance keep the forced bank, overrides and the quirk itself included. -/
theorem exec_keeps_prgForced {s t : State} {i : Instr}
    (hi : keepsWindows (roleOf i) = true ∨ roleOf i = .override ∨ roleOf i = .forcePrg) (hs : s.prgForced)
    (h : exec i s = .next t) : t.prgForced := by
  rcases hi with hkeep | hover | hforce
  · obtain ⟨⟨hprg, -⟩, hinst⟩ := exec_keepsWindows hkeep h
    exact prgForced_of_sameInstance hs hprg hinst
  · obtain ⟨hprg, -, hinst⟩ := exec_override_frame hover h
    exact prgForced_of_sameInstance hs hprg hinst
  · exact exec_forcePrg_prgForced hforce h

/-- After a syncing row of variant 163 or 164 the PRG window holds `{reg[0], reg[1][3:0]}`. -/
theorem exec_syncs_prgWin {s t : State} {i : Instr} (hv : s.variant = .v164 ∨ s.variant = .v163)
    (hi : syncs (roleOf i) = true) (h : exec i s = .next t) :
    t.prgWin = some (t.reg.r0 ++ t.reg.r1.extractLsb' 0 4) := by
  obtain ⟨hvariant, hsync⟩ := exec_syncs hi h
  rw [← hvariant] at hv
  calc t.prgWin = t.syncAB.prgWin := by rw [← State.sync_eq_syncAB hv, hsync]
    _ = some (t.reg.r0 ++ t.reg.r1.extractLsb' 0 4) := congrArg some (formulaA_eq_append t.reg)

/-! ## From creation to a work-RAM read (70_reset_and_hazards.md R292) -/

/-- A delivered creation, from any state. -/
theorem deliverAll_create (s : State) (upper : BitVec 13) (battery : Bool) (v : Variant) (dls : List Delivery) :
    deliverAll (ev 0x07 (createOperand upper battery v) :: dls) s =
      deliverAll dls (s.drained.quiet.newInstance v battery) :=
  deliverAll_cons rfl (decode_createEvent s.variant v upper battery) rfl

theorem exec_batload_created {s : State} (n : Operand) (image : Bytes) (hp : s.phase = .created)
    (hb : s.battery = true) (hv : s.variant ≠ .vTemplate) :
    exec (.batload n image) s = .next (s.quiet.setWram image.cells) := by
  rw [exec, execBatload, hp]
  exact withBattery_backed hb hv

/-- A delivered battery load, before the first power-on of a board with a battery. -/
theorem deliverAll_batload {s : State} (n : Operand) {image : Bytes} (dls : List Delivery) (hwf : image.wf = true)
    (hsize : image.size = 8192) (hp : s.phase = .created) (hb : s.battery = true) (hv : s.variant ≠ .vTemplate) :
    deliverAll (.evt (0x08#8 ++ n) (.image image) :: dls) s = deliverAll dls (s.drained.quiet.setWram image.cells) :=
  deliverAll_cons rfl (decode_batloadEvent s.variant n hwf hsize) (exec_batload_created n image hp hb hv)

/-- A row that is the power-on of the instance's variant runs to its state while the instance lives. -/
theorem whenPowerable_forVariant_live {s t : State} {v : Variant} (hp : s.phase ≠ .tornDown) (hv : s.variant = v) :
    whenPowerable s (forVariant v s (.next t)) = .next t :=
  (whenPowerable_live hp).trans (forVariant_same hv)

/-- The power-on of a live board leaves it running, with the work RAM mapped and unchanged. -/
theorem exec_power_board {s : State} (n : Operand) (hp : s.phase ≠ .tornDown) (hv : s.variant ≠ .vTemplate) :
    ∃ t, exec (decodePower s.variant n) s = .next t ∧ t.boardReady ∧ t.wramWin = true ∧ t.wram = s.wram := by
  cases hs : s.variant with
  | v164 | v163 | vFS304 => exact ⟨_, whenPowerable_forVariant_live hp hs, ⟨hv, rfl⟩, rfl, rfl⟩
  | vTemplate => exact absurd hs hv

/-- A delivered work-RAM read of a running board whose work RAM is mapped. -/
theorem deliverAll_wramR {s : State} {a : Addr} (dls : List Delivery) (ha : a.extractLsb' 13 3 = 0x3#3)
    (hs : s.boardReady) (hw : s.wramWin = true) :
    deliverAll (.busr a :: dls) s = deliverAll dls (s.drained.drive (s.wram.read (a.toNat - 0x6000))) := by
  have hdec : decode s.variant (.busr a) = .ok (.wramR a) := by
    rw [decode_busr, decodeBusRead_wram _ ha, decodeWramRead, if_neg hs.1]
  rw [← wramOffset_eq_sub ha]
  exact deliverAll_cons rfl hdec (exec_wramR_mapped (s := s.drained) a hs hw)

/-- A live board that is powered on and then read drives the byte its work RAM held before the power-on. -/
theorem deliverAll_power_wramR {s : State} {a : Addr} (n : Operand) (hp : s.phase ≠ .tornDown)
    (hv : s.variant ≠ .vTemplate) (ha : a.extractLsb' 13 3 = 0x3#3) :
    ∃ t, deliverAll [ev 0x02 n, .busr a] s = .next t ∧ t.out = .drive (s.wram.read (a.toNat - 0x6000)) := by
  obtain ⟨t, hpower, hready, hwin, hwram⟩ := exec_power_board (s := s.drained) n hp hv
  refine ⟨t.drained.drive (t.wram.read (a.toNat - 0x6000)), ?_, by rw [hwram]; rfl⟩
  rw [deliverAll_cons rfl (decode_powerEvent s.variant n) hpower, deliverAll_wramR [] ha hready hwin, deliverAll]

/-! ## The obligations -/

/-- Settles O54: the forced bank is an invariant of the run, and a syncing row then pushes formula A. -/
theorem forcedBankLastsUntilSync : Obligations.ForcedBankLastsUntilSync := by
  intro s t u is i _ hforce hkeep hrun
  obtain ⟨⟨hv, -⟩, hprg⟩ : u.prgForced :=
    execAll_keeps (fun j hj _ _ hs h => exec_keeps_prgForced (hkeep j hj) hs h)
      (exec_forcePrg_prgForced rfl hforce) hrun
  exact ⟨hprg, fun w hi h => exec_syncs_prgWin (.inr hv) hi h⟩

/-- Settles O57: creation makes any state a live board with a battery, the load fills its work RAM, and the power-on keeps
it for the read. -/
theorem batteryImageIsReadableAfterPowerOn : Obligations.BatteryImageIsReadableAfterPowerOn := by
  intro s v image a hv hwf hsize ha
  have hword : (0x080000 : BitVec 24) = 0x08#8 ++ (0 : Operand) := rfl
  rw [deliverAll_create, hword, deliverAll_batload 0 _ hwf hsize rfl rfl hv]
  exact deliverAll_power_wramR 0 nofun hv ha

end Machine
end Sys2Proof
end

section
/-! PROOF. The statements of the round trip between instructions and deliveries: first the operands a row admits, then what
each part of the decoder reads, then the decoder on an encoding, then the obligations. -/

namespace Sys2Proof

/-! ## The operands a row admits (30_encoding.md R91, R96-R98) -/

theorem inCfgRange_iff {a : Addr} : inCfgRange a = true ↔ a.extractLsb' 12 4 = 0x5#4 := decide_eq_true_iff

theorem inCfgWrite_iff {sel : BitVec 2} {a : Addr} :
    inCfgWrite sel a = true ↔ a.extractLsb' 12 4 = 0x5#4 ∧ a.extractLsb' 8 2 = sel := by
  rw [inCfgWrite, Bool.and_eq_true, inCfgRange_iff, decide_eq_true_iff]

theorem inWramRange_iff {a : Addr} : inWramRange a = true ↔ a.extractLsb' 13 3 = 0x3#3 := decide_eq_true_iff

/-- A register select that is none of three values is the fourth. -/
theorem writeSel_eq_three {a : Addr} (h0 : writeSel a ≠ 0) (h1 : writeSel a ≠ 1) (h2 : writeSel a ≠ 2) : writeSel a = 3 := by
  have hfour : ∀ x : BitVec 2, x ≠ 0 → x ≠ 1 → x ≠ 2 → x = 3 := by decide
  exact hfour _ h0 h1 h2

/-- The strobe port and the quirk address both have the register select 1. -/
theorem not_port_of_sel {a : Addr} {sel : BitVec 2} (d : Byte) (h : a.extractLsb' 8 2 = sel) (hsel : sel ≠ 1#2) :
    a ≠ 0x5101 ∧ ¬(a = 0x5100 ∧ d = 0x06) := by
  constructor
  · rintro rfl
    exact hsel h.symm
  · rintro ⟨rfl, -⟩
    exact hsel h.symm

/-! ## What the decoder reads from a delivery (30_encoding.md R96-R98) -/

/-- `i` is a row of variant `v` that admits its operands and whose encoding is `dl`. -/
def Instr.standsFor (v : Variant) (dl : Delivery) (i : Instr) : Prop :=
  encode i = dl ∧ i.wellFormed = true ∧ i.inVariant v = true

theorem decodeWrite164_standsFor {a : Addr} (d : Byte) (ha : a.extractLsb' 12 4 = 0x5#4) :
    (decodeWrite164 a d).standsFor .v164 (wr a d) := by
  unfold decodeWrite164
  split
  · next h0 => exact ⟨rfl, inCfgWrite_iff.mpr ⟨ha, h0⟩, rfl⟩
  split
  · next h1 => exact ⟨rfl, inCfgWrite_iff.mpr ⟨ha, h1⟩, rfl⟩
  split
  · next h2 => exact ⟨rfl, inCfgWrite_iff.mpr ⟨ha, h2⟩, rfl⟩
  · next h0 h1 h2 => exact ⟨rfl, inCfgWrite_iff.mpr ⟨ha, writeSel_eq_three h0 h1 h2⟩, rfl⟩

theorem decodeWriteFs304_standsFor {a : Addr} (d : Byte) (ha : a.extractLsb' 12 4 = 0x5#4) :
    (decodeWriteFs304 a d).standsFor .vFS304 (wr a d) := by
  unfold decodeWriteFs304
  split
  · next h0 => exact ⟨rfl, inCfgWrite_iff.mpr ⟨ha, h0⟩, rfl⟩
  split
  · next h1 => exact ⟨rfl, inCfgWrite_iff.mpr ⟨ha, h1⟩, rfl⟩
  split
  · next h2 => exact ⟨rfl, inCfgWrite_iff.mpr ⟨ha, h2⟩, rfl⟩
  · next h0 h1 h2 => exact ⟨rfl, inCfgWrite_iff.mpr ⟨ha, writeSel_eq_three h0 h1 h2⟩, rfl⟩

/-- A `W163_REG3` write is admitted outside the strobe port and the quirk pair. -/
theorem wellFormed_w163Reg3_iff {a : Addr} {d : Byte} :
    (Instr.w163Reg3 a d).wellFormed = true ↔
      (a.extractLsb' 12 4 = 0x5#4 ∧ a.extractLsb' 8 2 = 1#2) ∧ a ≠ 0x5101 ∧ ¬(a = 0x5100 ∧ d = 0x06) := by
  rw [Instr.wellFormed, Bool.and_eq_true, Bool.and_eq_true, decide_eq_true_iff, decide_eq_true_iff, and_assoc,
    inCfgWrite_iff]
  rfl

theorem decodeWrite163_standsFor {a : Addr} (d : Byte) (ha : a.extractLsb' 12 4 = 0x5#4) :
    (decodeWrite163 a d).standsFor .v163 (wr a d) := by
  unfold decodeWrite163
  split
  · next hstrobe => exact ⟨by rw [hstrobe]; rfl, rfl, rfl⟩
  split
  · next hquirk => exact ⟨by rw [hquirk.1, hquirk.2]; rfl, rfl, rfl⟩
  split
  · next h0 => exact ⟨rfl, inCfgWrite_iff.mpr ⟨ha, h0⟩, rfl⟩
  split
  · next hstrobe hquirk _ h1 => exact ⟨rfl, wellFormed_w163Reg3_iff.mpr ⟨⟨ha, h1⟩, hstrobe, hquirk⟩, rfl⟩
  split
  · next h2 => exact ⟨rfl, inCfgWrite_iff.mpr ⟨ha, h2⟩, rfl⟩
  · next h0 h1 h2 => exact ⟨rfl, inCfgWrite_iff.mpr ⟨ha, writeSel_eq_three h0 h1 h2⟩, rfl⟩

theorem decodeCfgWrite_standsFor (v : Variant) {a : Addr} (d : Byte) (ha : a.extractLsb' 12 4 = 0x5#4) :
    (decodeCfgWrite v a d).standsFor v (wr a d) := by
  cases v with
  | v164 => exact decodeWrite164_standsFor d ha
  | v163 => exact decodeWrite163_standsFor d ha
  | vFS304 => exact decodeWriteFs304_standsFor d ha
  | vTemplate => exact ⟨rfl, inCfgRange_iff.mpr ha, rfl⟩

theorem decodeRead163_standsFor {a : Addr} (ha : a.extractLsb' 12 4 = 0x5#4) :
    (decodeRead163 a).standsFor .v163 (.busr a) := by
  have hcfg := inCfgRange_iff.mpr ha
  unfold decodeRead163 readSel
  split
  · next h1 => exact ⟨rfl, by simp [Instr.wellFormed, hcfg, h1], rfl⟩
  split
  · next h5 => exact ⟨rfl, by simp [Instr.wellFormed, hcfg, h5], rfl⟩
  · next h1 h5 => exact ⟨rfl, by simp_all [Instr.wellFormed], rfl⟩

theorem decodeCfgRead_standsFor (v : Variant) {a : Addr} (ha : a.extractLsb' 12 4 = 0x5#4) :
    (decodeCfgRead v a).standsFor v (.busr a) := by
  cases v with
  | v163 => exact decodeRead163_standsFor ha
  | v164 | vFS304 | vTemplate => exact ⟨rfl, inCfgRange_iff.mpr ha, rfl⟩

theorem decodeWramWrite_standsFor (v : Variant) {a : Addr} (d : Byte) (ha : inWramRange a = true) :
    (decodeWramWrite v a d).standsFor v (wr a d) := by
  cases v <;> exact ⟨rfl, ha, rfl⟩

theorem decodeWramRead_standsFor (v : Variant) {a : Addr} (ha : inWramRange a = true) :
    (decodeWramRead v a).standsFor v (.busr a) := by
  cases v <;> exact ⟨rfl, ha, rfl⟩

theorem decodeBusWrite_standsFor {v : Variant} {a : Addr} {d : Byte} {i : Instr} (h : decodeBusWrite v a d = .ok i) :
    i.standsFor v (wr a d) := by
  unfold decodeBusWrite at h
  split at h
  · next ha =>
    obtain rfl := Except.ok.inj h
    exact ⟨rfl, ha, rfl⟩
  split at h
  · next ha => exact Except.ok.inj h ▸ decodeWramWrite_standsFor v d ha
  split at h
  · next ha => exact Except.ok.inj h ▸ decodeCfgWrite_standsFor v d (of_decide_eq_true ha)
  · exact nomatch h

theorem decodeBusRead_standsFor {v : Variant} {a : Addr} {i : Instr} (h : decodeBusRead v a = .ok i) :
    i.standsFor v (.busr a) := by
  unfold decodeBusRead at h
  split at h
  · next ha =>
    obtain rfl := Except.ok.inj h
    exact ⟨rfl, ha, rfl⟩
  split at h
  · next ha => exact Except.ok.inj h ▸ decodeWramRead_standsFor v ha
  split at h
  · next ha => exact Except.ok.inj h ▸ decodeCfgRead_standsFor v (of_decide_eq_true ha)
  · exact nomatch h

theorem decodePatternFetch_standsFor {v : Variant} {p : Addr} {i : Instr} (h : decodePatternFetch p = .ok i) :
    i.standsFor v (.ppur p) := by
  unfold decodePatternFetch at h
  split at h
  · next hp =>
    obtain rfl := Except.ok.inj h
    exact ⟨rfl, decide_eq_true hp, rfl⟩
  · exact nomatch h

/-! ## What the decoder reads from an event (30_encoding.md R94) -/

theorem decodeScanline_standsFor (v : Variant) (n : Operand) : (decodeScanline v n).standsFor v (ev 0x01 n) := by
  cases v with
  | v164 | vFS304 | vTemplate => exact ⟨rfl, rfl, rfl⟩
  | v163 =>
    by_cases h239 : n = 239
    · subst h239
      exact ⟨rfl, rfl, rfl⟩
    by_cases h127 : n = 127
    · subst h127
      exact ⟨rfl, rfl, rfl⟩
    rw [decodeScanline_other h239 h127]
    exact ⟨rfl, by rw [Instr.wellFormed, decide_eq_true h239, decide_eq_true h127]; rfl, rfl⟩

theorem decodeCreate_standsFor (v : Variant) (n : Operand) : (decodeCreate n).standsFor v (ev 0x07 n) :=
  ⟨congrArg (ev 0x07) (createOperand_fields n), rfl, rfl⟩

/-- The events without a payload, code by code. -/
theorem decodePlainEvent_standsFor {v : Variant} {e : Byte} {n : Operand} {i : Instr}
    (h : decodePlainEvent v e n = .ok i) : i.standsFor v (ev e n) := by
  unfold decodePlainEvent at h
  split at h
  · next he => exact he ▸ Except.ok.inj h ▸ decodeScanline_standsFor v n
  split at h
  · next he =>
    obtain rfl := Except.ok.inj h
    subst he
    cases v <;> exact ⟨rfl, rfl, rfl⟩
  split at h
  · next he =>
    obtain rfl := Except.ok.inj h
    exact he ▸ ⟨rfl, rfl, rfl⟩
  split at h
  · next he =>
    obtain rfl := Except.ok.inj h
    subst he
    cases v <;> exact ⟨rfl, rfl, rfl⟩
  split at h
  · next he =>
    obtain rfl := Except.ok.inj h
    exact he ▸ ⟨rfl, rfl, rfl⟩
  split at h
  · next he => exact he ▸ Except.ok.inj h ▸ decodeCreate_standsFor v n
  split at h
  · next he =>
    obtain rfl := Except.ok.inj h
    exact he ▸ ⟨rfl, rfl, rfl⟩
  split at h <;> exact nomatch h

theorem decodeRestore_standsFor {v : Variant} {n : Operand} {fs : List SavedField} {i : Instr}
    (h : decodeRestore v n fs = .ok i) : i.standsFor v (.evt (0x05#8 ++ n) (.fields fs)) := by
  unfold decodeRestore at h
  split at h
  · next hfs =>
    obtain rfl := Except.ok.inj h
    cases v <;> exact ⟨rfl, hfs, rfl⟩
  · exact nomatch h

theorem decodeBatload_standsFor {v : Variant} {n : Operand} {image : Bytes} {i : Instr}
    (h : decodeBatload n image = .ok i) : i.standsFor v (.evt (0x08#8 ++ n) (.image image)) := by
  unfold decodeBatload at h
  split at h
  · next himage =>
    obtain rfl := Except.ok.inj h
    exact ⟨rfl, by rw [Instr.wellFormed, himage.1, decide_eq_true himage.2]; rfl, rfl⟩
  · exact nomatch h

theorem decodeEvent_standsFor {v : Variant} {e : Byte} {n : Operand} {p : Payload} {i : Instr}
    (h : decodeEvent v e n p = .ok i) : i.standsFor v (.evt (e ++ n) p) := by
  cases p with
  | none => exact decodePlainEvent_standsFor h
  | fields fs =>
    rw [decodeEvent] at h
    split at h
    · next he =>
      subst he
      exact decodeRestore_standsFor h
    · exact nomatch h
  | image b =>
    rw [decodeEvent] at h
    split at h
    · next he =>
      subst he
      exact decodeBatload_standsFor h
    · exact nomatch h

/-- What the decoder reads stands for the delivery, every bit of it. -/
theorem decode_standsFor {v : Variant} {dl : Delivery} {i : Instr} (h : decode v dl = .ok i) : i.standsFor v dl := by
  cases dl with
  | busw w =>
    rw [← busw_fields w] at h ⊢
    exact decodeBusWrite_standsFor (decode_busw v _ _ ▸ h)
  | busr w => exact decodeBusRead_standsFor h
  | ppur w => exact decodePatternFetch_standsFor h
  | evt w p =>
    rw [← evt_fields w] at h ⊢
    exact decodeEvent_standsFor (decode_evt v _ _ p ▸ h)

/-! ## The decoder on an encoding (30_encoding.md R90-R98) -/

theorem decode_cfgWrite {v : Variant} {a : Addr} {d : Byte} {i : Instr} (ha : a.extractLsb' 12 4 = 0x5#4)
    (hrow : decodeCfgWrite v a d = i) : decode v (wr a d) = .ok i := by
  rw [decode_wr, decodeBusWrite_cfg v d ha, hrow]

theorem decode_cfgRead {v : Variant} {a : Addr} {i : Instr} (ha : a.extractLsb' 12 4 = 0x5#4)
    (hrow : decodeCfgRead v a = i) : decode v (.busr a) = .ok i := by
  rw [decode_busr, decodeBusRead_cfg v ha, hrow]

theorem decode_wramWrite {v : Variant} {a : Addr} {d : Byte} {i : Instr} (ha : a.extractLsb' 13 3 = 0x3#3)
    (hrow : decodeWramWrite v a d = i) : decode v (wr a d) = .ok i := by
  rw [decode_wr, decodeBusWrite_wram v d ha, hrow]

theorem decode_wramRead {v : Variant} {a : Addr} {i : Instr} (ha : a.extractLsb' 13 3 = 0x3#3)
    (hrow : decodeWramRead v a = i) : decode v (.busr a) = .ok i := by
  rw [decode_busr, decodeBusRead_wram v ha, hrow]

/-- Every well-formed row of a variant is what its decoder reads from the row's encoding. -/
theorem decode_encode {v : Variant} {i : Instr} (hi : i.wellFormed = true) (hv : i.inVariant v = true) :
    decode v (encode i) = .ok i := by
  cases i with
  | w164Reg1 a d | w164Reg0 a d | w164Reg3 a d | w164Reg2 a d =>
    obtain rfl := of_decide_eq_true hv
    obtain ⟨ha, hsel⟩ := inCfgWrite_iff.mp hi
    exact decode_cfgWrite ha (by simp [decodeCfgWrite, decodeWrite164, writeSel, hsel])
  | wfsReg0 a d | wfsReg1 a d | wfsReg2 a d | wfsReg3 a d =>
    obtain rfl := of_decide_eq_true hv
    obtain ⟨ha, hsel⟩ := inCfgWrite_iff.mp hi
    exact decode_cfgWrite ha (by simp [decodeCfgWrite, decodeWriteFs304, writeSel, hsel])
  | w163Reg1 a d | w163Reg0 a d | w163Reg2 a d =>
    obtain rfl := of_decide_eq_true hv
    obtain ⟨ha, hsel⟩ := inCfgWrite_iff.mp hi
    obtain ⟨hstrobe, hquirk⟩ := not_port_of_sel d hsel (by decide)
    exact decode_cfgWrite ha (by simp [decodeCfgWrite, Machine.decodeWrite163_ordinary hstrobe hquirk, writeSel, hsel])
  | w163Reg3 a d =>
    obtain rfl := of_decide_eq_true hv
    obtain ⟨⟨ha, hsel⟩, hstrobe, hquirk⟩ := wellFormed_w163Reg3_iff.mp hi
    exact decode_cfgWrite ha (by simp [decodeCfgWrite, Machine.decodeWrite163_ordinary hstrobe hquirk, writeSel, hsel])
  | w163Strobe d =>
    obtain rfl := of_decide_eq_true hv
    exact decode_cfgWrite (by decide) rfl
  | w163ForcePrg =>
    obtain rfl := of_decide_eq_true hv
    exact decode_cfgWrite (by decide) rfl
  | wtNop a d =>
    obtain rfl := of_decide_eq_true hv
    exact decode_cfgWrite (inCfgRange_iff.mp hi) rfl
  | r164Cfg a | rfsCfg a | rtCfg a =>
    obtain rfl := of_decide_eq_true hv
    exact decode_cfgRead (inCfgRange_iff.mp hi) rfl
  | r163Trig a | r163Status a =>
    obtain rfl := of_decide_eq_true hv
    obtain ⟨ha, hsel⟩ := Bool.and_eq_true_iff.mp hi
    refine decode_cfgRead (inCfgRange_iff.mp ha) ?_
    simp [decodeCfgRead, decodeRead163, readSel, of_decide_eq_true hsel]
  | r163Default a =>
    obtain rfl := of_decide_eq_true hv
    obtain ⟨hcfg, h1⟩ := Bool.and_eq_true_iff.mp hi
    obtain ⟨ha, h5⟩ := Bool.and_eq_true_iff.mp hcfg
    exact decode_cfgRead (inCfgRange_iff.mp ha) (Machine.decodeRead163_default (of_decide_eq_true h1) (of_decide_eq_true h5))
  | wtWramW a d =>
    obtain rfl := of_decide_eq_true hv
    exact decode_wramWrite (inWramRange_iff.mp hi) rfl
  | wtWramR a =>
    obtain rfl := of_decide_eq_true hv
    exact decode_wramRead (inWramRange_iff.mp hi) rfl
  | wramW a d => exact decode_wramWrite (inWramRange_iff.mp hi) (if_neg (of_decide_eq_true hv))
  | wramR a => exact decode_wramRead (inWramRange_iff.mp hi) (if_neg (of_decide_eq_true hv))
  | prgR a => exact decodeBusRead_prg v (of_decide_eq_true hi)
  | prgW a d => rw [encode, decode_wr, decodeBusWrite_prg v d (of_decide_eq_true hi)]
  | chrR p => exact if_pos (of_decide_eq_true hi)
  | ev163SlOther n =>
    obtain rfl := of_decide_eq_true hv
    obtain ⟨h239, h127⟩ := Bool.and_eq_true_iff.mp hi
    exact (decode_scanlineEvent .v163 n).trans
      (congrArg _ (decodeScanline_other (of_decide_eq_true h239) (of_decide_eq_true h127)))
  | ev163Sl239 | ev163Sl127 | ev164Sl _ | evfsSl _ | evtSl _ =>
    obtain rfl := of_decide_eq_true hv
    exact decode_scanlineEvent _ _
  | power164 n | power163 n | powerFs304 n | powerT n =>
    obtain rfl := of_decide_eq_true hv
    exact decode_powerEvent _ n
  | save n => exact (decode_saveEvent v n).trans (congrArg _ (decodeSave_board n (of_decide_eq_true hv)))
  | saveT n =>
    obtain rfl := of_decide_eq_true hv
    exact decode_saveEvent .vTemplate n
  | restore n fs => exact (decode_restoreEvent v n hi).trans (congrArg _ (if_neg (of_decide_eq_true hv)))
  | restoreT n fs =>
    obtain rfl := of_decide_eq_true hv
    exact decode_restoreEvent .vTemplate n hi
  | batload n image =>
    obtain ⟨hwf, hsize⟩ := Bool.and_eq_true_iff.mp hi
    exact decode_batloadEvent v n hwf (of_decide_eq_true hsize)
  | reset n | teardown n | batsave n =>
    rw [encode, decode_ev]
    rfl
  | create upper battery w => exact decode_createEvent v w upper battery

/-! ## The obligations -/

/-- Settles O1: each row's operands pass the tests of its own part of the decoder and fail those made before. -/
theorem decodeOfEncodeIsTheInstruction : Obligations.DecodeOfEncodeIsTheInstruction :=
  fun _ _ hi hv => decode_encode hi hv

/-- Settles O2: the tests that lead the decoder to a row are the row's own, and a word is made of the fields they take. -/
theorem decodedInstructionEncodesBack : Obligations.DecodedInstructionEncodesBack :=
  fun _ _ _ h => decode_standsFor h

/-- A delivery that the decoder reads stands for the row read and no other. -/
theorem standsFor_and_unique {v : Variant} {dl : Delivery} {i : Instr} (h : decode v dl = .ok i) :
    ∃ i : Instr, (i.wellFormed = true ∧ i.inVariant v = true ∧ encode i = dl) ∧
      ∀ j : Instr, j.wellFormed = true → j.inVariant v = true → encode j = dl → j = i := by
  obtain ⟨henc, hwf, hvar⟩ := decode_standsFor h
  refine ⟨i, ⟨hwf, hvar, henc⟩, fun j hj hv hdl => ?_⟩
  have hread : decode v dl = .ok j := hdl ▸ decode_encode hj hv
  exact Except.ok.inj (hread.symm.trans h)

/-- Settles O4: the row is the one the decoder reads, and a row with the same encoding is read back from it too. -/
theorem configurationAccessMatchesOneRow : Obligations.ConfigurationAccessMatchesOneRow :=
  fun _ _ _ ha => ⟨standsFor_and_unique (decode_cfgWrite ha rfl), standsFor_and_unique (decode_cfgRead ha rfl)⟩

/-- Settles O5: each word is the encoding of its instruction. -/
theorem sampleWordsDecode : Obligations.SampleWordsDecode := by
  refine ⟨?_, ?_, ?_, ?_, ?_, ?_, ?_, ?_⟩
  · exact decode_encode (i := .w164Reg0 0x5100 0x03) (by decide) rfl
  · exact decode_encode (i := .w163ForcePrg) rfl rfl
  · exact decode_encode (i := .w163Reg3 0x5180 0x06) (by decide) rfl
  · exact decode_encode (i := .r163Trig 0x5D00) (by decide) rfl
  · exact decode_encode (i := .wfsReg3 0x57FF 0x01) (by decide) rfl
  · exact decode_encode (i := .evtSl 5) rfl rfl
  · exact decode_encode (i := .ev163SlOther 0xFFFF) (by decide) rfl
  · exact decode_encode (i := .create 0 true .v163) rfl rfl

end Sys2Proof
end

section
/-! PROOF. The statements about what each kind of row leaves unchanged: first what a row does by the part it plays, then
what follows for each field of the state, then the obligations. -/

namespace Sys2Proof.Machine

/-! ## What a row does, by the part it plays -/

/-- The registers a power-on leaves, by variant (45_lifecycle.md R251-R254). -/
def powerRegs (f : RegFile) : Variant → RegFile
  | .v164 => powerRegs164
  | .v163 => RegFile.zero
  | .vFS304 => powerRegsFs304 f
  | .vTemplate => f

/-- What a power-on installs, by variant (45_lifecycle.md R257). -/
def handlersOf : Variant → Handlers
  | .v164 => handlers164
  | .v163 => handlers163
  | .vFS304 => handlersFs304
  | .vTemplate => handlersTemplate

/-- The state a power-on of variant `v` leaves before its Sync; `lastStrobe` is variant 163's to set
(45_lifecycle.md R251-R254). -/
def State.poweredOn (s : State) (v : Variant) : State :=
  { s with
    reg := powerRegs s.reg v
    lastStrobe := if v = .v163 then s.lastStrobePower163 else s.lastStrobe
    phase := .running
    out := .installed (handlersOf v) }

/-- The registers that no configuration write reaches (10_state.md R22). -/
def RegName.isReserved : RegName → Bool
  | .r0 | .r1 | .r2 | .r3 => false
  | .r4 | .r5 | .r6 | .r7 => true

/-- `s` with the window outputs of `u`. -/
def State.withWindowsOf (s u : State) : State :=
  { s with prgWin := u.prgWin, chrLo := u.chrLo, chrHi := u.chrHi, wramWin := u.wramWin }

theorem State.scanlineOverride_eq_withWindowsOf (s : State) (b : Byte) :
    s.scanlineOverride b = s.withWindowsOf (s.scanlineOverride b) := by
  rcases s.scanlineOverride_cases b with ⟨-, h⟩ | ⟨-, h⟩ <;> rw [h] <;> rfl

/-- What an instruction `i` that plays part `r` can write from `s` to `t`, and in which instances it completes. Where it
moves windows, `exec_syncs` and `exec_override` say to what. -/
def effectOf (i : Instr) (s t : State) : Role → Prop
  | .regWrite r _ => s.boardReady ∧ r.isReserved = false ∧ ∃ d u, t = (s.quiet.setReg r d).withWindowsOf u
  | .forcePrg => s.readyAs .v163 ∧ t = s.quiet.forcePrg 3
  | .strobe =>
    s.readyAs .v163 ∧ ∃ d, i = .w163Strobe d ∧ t = s.quiet.setLatch d (strobeTrigger s.lastStrobe s.trigger d)
  | .read => s.phase = .running ∧ ∃ o n, t = { s with out := o, draws := n } ∧ o ≠ .irqAssert
  | .wramStore => s.boardReady ∧ ∃ a d, t = s.quiet.setWram (s.quiet.storeWram (wramOffset a) d).wram
  | .noEffect => s.phase = .running ∧ t = s.quiet
  | .override => s.readyAs .v163 ∧ ∃ u, t = s.quiet.withWindowsOf u
  | .irq => s.readyAs .vTemplate ∧ (∃ n, i = .evtSl n) ∧ t = s.assertIrq
  | .power => s.phase ≠ .tornDown ∧ (∃ n, i = decodePower s.variant n) ∧ ∃ u, t = (s.poweredOn s.variant).withWindowsOf u
  | .save => s.phase ≠ .tornDown ∧ ∃ o, t = s.emit o ∧ o ≠ .irqAssert
  | .restore => s.boardReady ∧ ∃ fs u, (∃ n, i = .restore n fs) ∧ fieldSizesRight fs ∧
    t = (s.quiet.loadFields fs).withWindowsOf u
  | .teardown => s.phase ≠ .tornDown ∧ t = ((s.quiet.setWram []).clearWindows).setPhase .tornDown
  | .create => ∃ b v, t = s.quiet.newInstance v b
  | .batload =>
    s.phase = .created ∧ s.variant ≠ .vTemplate ∧ ∃ image, (∃ n, i = .batload n image) ∧ t = s.quiet.setWram image.cells

theorem readyAs_board {s : State} {v : Variant} (h : s.readyAs v) (hv : v ≠ .vTemplate) : s.boardReady :=
  ⟨h.1 ▸ hv, h.2⟩

/-- Every completed row does what its part says. -/
theorem exec_effect {i : Instr} {s t : State} (h : exec i s = .next t) : effectOf i s t (roleOf i) := by
  cases i with
  | w164Reg1 _ d | w164Reg0 _ d | w164Reg3 _ d | w164Reg2 _ d | w163Reg1 _ d | w163Reg3 _ d | w163Reg0 _ d
  | w163Reg2 _ d | wfsReg0 _ d | wfsReg1 _ d | wfsReg2 _ d | wfsReg3 _ d =>
    obtain ⟨hs, ht⟩ := exec_next h
    exact ⟨readyAs_board hs nofun, rfl, d, t, by rw [ht]; rfl⟩
  | w163Strobe d =>
    obtain ⟨hs, rfl⟩ := exec_next h
    exact ⟨hs, d, rfl, rfl⟩
  | r163Trig _ | r163Status _ | r163Default _ | r164Cfg _ | rfsCfg _ | rtCfg _ | wtWramR _ =>
    obtain ⟨hs, rfl⟩ := exec_next h
    exact ⟨hs.2, _, _, rfl, nofun⟩
  | wramR a =>
    obtain ⟨hs, rfl⟩ := exec_next h
    exact ⟨hs.2, s.loadWram_eq (wramOffset a)⟩
  | wramW a d =>
    obtain ⟨hs, rfl⟩ := exec_next h
    exact ⟨hs, a, d, s.quiet.storeWram_eq (wramOffset a) d⟩
  | wtNop _ _ | wtWramW _ _ | ev163SlOther _ | ev164Sl _ | evfsSl _ | restoreT _ _ =>
    obtain ⟨hs, rfl⟩ := exec_next h
    exact ⟨hs.2, rfl⟩
  | ev163Sl239 | ev163Sl127 =>
    obtain ⟨hs, rfl⟩ := exec_next h
    exact ⟨hs, _, s.quiet.scanlineOverride_eq_withWindowsOf _⟩
  | evtSl n =>
    obtain ⟨hs, rfl⟩ := exec_next h
    exact ⟨hs, ⟨n, rfl⟩, rfl⟩
  | power164 n | power163 n | powerFs304 n | powerT n =>
    obtain ⟨hp, hv, ht⟩ := exec_next h
    refine ⟨hp, ?_⟩
    rw [hv]
    exact ⟨⟨n, rfl⟩, t, by rw [ht]; rfl⟩
  | save _ | saveT _ =>
    obtain ⟨hs, rfl⟩ := exec_next h
    exact ⟨by rw [hs.2]; nofun, _, rfl, nofun⟩
  | restore n fs =>
    obtain ⟨hs, hsizes, rfl⟩ := exec_next h
    exact ⟨hs, fs, _, ⟨n, rfl⟩, hsizes, State.sync_frame _⟩
  | batload n image =>
    obtain ⟨hp, -, hv, rfl⟩ := exec_next h
    exact ⟨hp, hv, image, ⟨n, rfl⟩, rfl⟩
  | batsave _ =>
    obtain ⟨hp, -, -, rfl⟩ := exec_next h
    exact ⟨hp, _, rfl, nofun⟩
  | create _ b v => exact ⟨b, v, exec_next h⟩
  | w163ForcePrg | prgR _ | prgW _ _ | chrR _ | reset _ | teardown _ => exact exec_next h

/-- Rows without an effect, the interrupt hook and the saves only hand something out. -/
theorem exec_emit_eq {s t : State} {i : Instr} (hi : roleOf i = .noEffect ∨ roleOf i = .irq ∨ roleOf i = .save)
    (h : exec i s = .next t) : ∃ o, t = s.emit o := by
  have he := exec_effect h
  rcases hi with hi | hi | hi <;> rw [hi] at he
  · exact ⟨_, he.2⟩
  · exact ⟨_, he.2.2⟩
  · obtain ⟨-, o, ht, -⟩ := he
    exact ⟨o, ht⟩

/-! ## Who writes each field -/

/-- The reserved registers are the same. -/
def RegFile.sameReserved (f g : RegFile) : Prop := g.r4 = f.r4 ∧ g.r5 = f.r5 ∧ g.r6 = f.r6 ∧ g.r7 = f.r7

theorem RegFile.sameReserved_set (f : RegFile) (d : Byte) {r : RegName} (hr : r.isReserved = false) :
    f.sameReserved (f.set d r) := by
  cases r with
  | r0 | r1 | r2 | r3 => exact ⟨rfl, rfl, rfl, rfl⟩
  | r4 | r5 | r6 | r7 => exact nomatch hr

/-- The power-ons of UNLFS304 and of the template keep the reserved registers (45_lifecycle.md R253, R254). -/
theorem sameReserved_powerRegs (f : RegFile) {v : Variant} (h164 : v ≠ .v164) (h163 : v ≠ .v163) :
    f.sameReserved (powerRegs f v) := by
  cases v with
  | v164 => exact absurd rfl h164
  | v163 => exact absurd rfl h163
  | vFS304 | vTemplate => exact ⟨rfl, rfl, rfl, rfl⟩

/-- Who writes each field: what an instruction `i` that plays part `r` leaves from `s` to `t`. -/
structure Frame (i : Instr) (s t : State) (r : Role) : Prop where
  surroundings : sameSurroundings s t
  owner : r ≠ .create → t.variant = s.variant ∧ t.battery = s.battery
  wram : r ≠ .wramStore → r ≠ .restore → r ≠ .batload → r ≠ .create → r ≠ .teardown → t.wram = s.wram
  reserved : (∀ n, i ≠ .power164 n) → (∀ n, i ≠ .power163 n) → r ≠ .restore → r ≠ .create → s.reg.sameReserved t.reg
  lastStrobe : r ≠ .restore → r ≠ .create → r ≠ .strobe → (∀ n, i ≠ .power163 n) → t.lastStrobe = s.lastStrobe
  trigger : r ≠ .restore → r ≠ .create → ¬(i = .w163Strobe 0x00 ∧ s.lastStrobe ≠ 0x00) → t.trigger = s.trigger
  noRequest : r ≠ .irq → t.out ≠ .irqAssert

/-- A row that leaves variant, battery, registers and latch writes the work RAM at most. -/
theorem Frame.of_same {i : Instr} {s t : State} {r : Role} (hsurr : sameSurroundings s t)
    (howner : t.variant = s.variant ∧ t.battery = s.battery) (hreg : t.reg = s.reg) (hlatch : sameLatch s t)
    (hwram : r ≠ .wramStore → r ≠ .restore → r ≠ .batload → r ≠ .create → r ≠ .teardown → t.wram = s.wram)
    (hout : r ≠ .irq → t.out ≠ .irqAssert) : Frame i s t r where
  surroundings := hsurr
  owner _ := howner
  wram := hwram
  reserved _ _ _ _ := by rw [hreg]; exact ⟨rfl, rfl, rfl, rfl⟩
  lastStrobe _ _ _ _ := hlatch.1
  trigger _ _ _ := hlatch.2
  noRequest := hout

/-- Every completed row writes a field only where its part is among the field's writers. -/
theorem exec_frame {i : Instr} {s t : State} (h : exec i s = .next t) : Frame i s t (roleOf i) := by
  have he := exec_effect h
  generalize roleOf i = r at he
  cases r with
  | forcePrg | noEffect =>
    obtain ⟨-, rfl⟩ := he
    exact .of_same ⟨rfl, rfl, rfl, rfl⟩ ⟨rfl, rfl⟩ rfl ⟨rfl, rfl⟩ (fun _ _ _ _ _ => rfl) (fun _ => nofun)
  | irq =>
    obtain ⟨-, -, rfl⟩ := he
    exact .of_same ⟨rfl, rfl, rfl, rfl⟩ ⟨rfl, rfl⟩ rfl ⟨rfl, rfl⟩ (fun _ _ _ _ _ => rfl) (fun h => absurd rfl h)
  | override =>
    obtain ⟨-, _, rfl⟩ := he
    exact .of_same ⟨rfl, rfl, rfl, rfl⟩ ⟨rfl, rfl⟩ rfl ⟨rfl, rfl⟩ (fun _ _ _ _ _ => rfl) (fun _ => nofun)
  | save =>
    obtain ⟨-, _, rfl, ho⟩ := he
    exact .of_same ⟨rfl, rfl, rfl, rfl⟩ ⟨rfl, rfl⟩ rfl ⟨rfl, rfl⟩ (fun _ _ _ _ _ => rfl) (fun _ => ho)
  | read =>
    obtain ⟨-, _, _, rfl, ho⟩ := he
    exact .of_same ⟨rfl, rfl, rfl, rfl⟩ ⟨rfl, rfl⟩ rfl ⟨rfl, rfl⟩ (fun _ _ _ _ _ => rfl) (fun _ => ho)
  | regWrite r _ =>
    obtain ⟨-, hr, d, _, rfl⟩ := he
    exact {
      surroundings := ⟨rfl, rfl, rfl, rfl⟩
      owner := fun _ => ⟨rfl, rfl⟩
      wram := fun _ _ _ _ _ => rfl
      reserved := fun _ _ _ _ => RegFile.sameReserved_set s.reg d hr
      lastStrobe := fun _ _ _ _ => rfl
      trigger := fun _ _ _ => rfl
      noRequest := fun _ => nofun }
  | strobe =>
    obtain ⟨-, d, rfl, rfl⟩ := he
    exact {
      surroundings := ⟨rfl, rfl, rfl, rfl⟩
      owner := fun _ => ⟨rfl, rfl⟩
      wram := fun _ _ _ _ _ => rfl
      reserved := fun _ _ _ _ => ⟨rfl, rfl, rfl, rfl⟩
      lastStrobe := fun _ _ h => absurd rfl h
      trigger := fun _ _ hedge =>
        strobeTrigger_of_not_fall _ fun ⟨hlast, hd⟩ => hedge ⟨congrArg _ hd, hlast⟩
      noRequest := fun _ => nofun }
  | wramStore =>
    obtain ⟨-, _, _, rfl⟩ := he
    exact .of_same ⟨rfl, rfl, rfl, rfl⟩ ⟨rfl, rfl⟩ rfl ⟨rfl, rfl⟩ (fun h => absurd rfl h) (fun _ => nofun)
  | power =>
    obtain ⟨-, ⟨n, rfl⟩, _, rfl⟩ := he
    exact {
      surroundings := ⟨rfl, rfl, rfl, rfl⟩
      owner := fun _ => ⟨rfl, rfl⟩
      wram := fun _ _ _ _ _ => rfl
      reserved := fun h164 h163 _ _ => sameReserved_powerRegs s.reg
        (fun hv => h164 n (congrArg (decodePower · n) hv)) (fun hv => h163 n (congrArg (decodePower · n) hv))
      lastStrobe := fun _ _ _ h163 => if_neg fun hv => h163 n (congrArg (decodePower · n) hv)
      trigger := fun _ _ _ => rfl
      noRequest := fun _ => nofun }
  | restore =>
    obtain ⟨-, _, _, -, -, rfl⟩ := he
    exact {
      surroundings := ⟨rfl, rfl, rfl, rfl⟩
      owner := fun _ => ⟨rfl, rfl⟩
      wram := fun _ h => absurd rfl h
      reserved := fun _ _ h => absurd rfl h
      lastStrobe := fun h => absurd rfl h
      trigger := fun h => absurd rfl h
      noRequest := fun _ => nofun }
  | teardown =>
    obtain ⟨-, rfl⟩ := he
    exact .of_same ⟨rfl, rfl, rfl, rfl⟩ ⟨rfl, rfl⟩ rfl ⟨rfl, rfl⟩ (fun _ _ _ _ h => absurd rfl h) (fun _ => nofun)
  | batload =>
    obtain ⟨-, -, _, -, rfl⟩ := he
    exact .of_same ⟨rfl, rfl, rfl, rfl⟩ ⟨rfl, rfl⟩ rfl ⟨rfl, rfl⟩ (fun _ _ h => absurd rfl h) (fun _ => nofun)
  | create =>
    obtain ⟨_, _, rfl⟩ := he
    exact {
      surroundings := ⟨rfl, rfl, rfl, rfl⟩
      owner := fun h => absurd rfl h
      wram := fun _ _ _ h => absurd rfl h
      reserved := fun _ _ _ h => absurd rfl h
      lastStrobe := fun _ h => absurd rfl h
      trigger := fun _ h => absurd rfl h
      noRequest := fun _ => nofun }

/-! ## The obligations -/

/-- Settles O46: no row writes the surroundings, and CREATE alone makes another instance. -/
theorem variantBatteryAndParametersAreFixed : Obligations.VariantBatteryAndParametersAreFixed :=
  fun _ _ _ h => ⟨(exec_frame h).surroundings, (exec_frame h).owner⟩

/-- Settles O47: a configuration write names none of the reserved registers, and two of the power-ons keep them. -/
theorem reservedRegistersKeepTheirValues : Obligations.ReservedRegistersKeepTheirValues :=
  fun _ _ _ h => (exec_frame h).reserved

/-- Settles O48, by who writes each latch byte; a strobe write that is no falling edge keeps `trigger`. -/
theorem onlyItsWritersChangeTheLatch : Obligations.OnlyItsWritersChangeTheLatch :=
  fun _ _ _ h hrestore hcreate => ⟨(exec_frame h).lastStrobe hrestore hcreate, (exec_frame h).trigger hrestore hcreate⟩

/-- Settles O45: a battery load writes the work RAM and nothing else of the block. -/
theorem onlyItsWritersChangeTheWorkRam : Obligations.OnlyItsWritersChangeTheWorkRam := by
  intro s t i h
  refine ⟨(exec_frame h).wram, fun hi => ?_⟩
  have he := exec_effect h
  rw [hi] at he
  obtain ⟨-, -, _, -, rfl⟩ := he
  exact ⟨rfl, ⟨rfl, rfl⟩, ⟨rfl, rfl, rfl, rfl⟩, ⟨rfl, rfl, rfl⟩, rfl, rfl, rfl, rfl⟩

/-- Settles O49: a syncing row ends in a state that is its own Sync, and the rows that keep the windows keep all four. -/
theorem syncRunsWhereTheSpecSays : Obligations.SyncRunsWhereTheSpecSays :=
  fun _ _ _ h => ⟨fun hi => (exec_syncs hi h).2, fun hi => (exec_keepsWindows hi h).1⟩

/-- Settles O40: a register write writes its register and, when it Syncs, the windows. -/
theorem registerWriteFrame : Obligations.RegisterWriteFrame := by
  intro s t i r b hi h
  have hwindows : b = false → sameWindows s t := fun hb => (exec_keepsWindows (by rw [hi, hb]; rfl) h).1
  have he := exec_effect h
  rw [hi] at he
  obtain ⟨-, -, d, _, rfl⟩ := he
  exact ⟨fun q hq => RegFile.get_set_other s.reg d hq, ⟨rfl, rfl⟩, ⟨rfl, rfl, rfl⟩, ⟨rfl, rfl, rfl, rfl⟩,
    fun _ => rfl, rfl, hwindows⟩

/-- Settles O42: a store touches the work RAM alone, and there the byte at its offset alone. -/
theorem wramWriteFrame : Obligations.WramWriteFrame := by
  intro s t a d h
  obtain ⟨-, rfl⟩ := exec_next h
  have hother : ∀ k, k ≠ wramOffset a → (s.quiet.storeWram (wramOffset a) d).wram.read k = s.wram.read k :=
    fun k hk => s.quiet.storeWram_read_other d hk
  refine ⟨?_, ?_, ?_, ?_, ?_, hother⟩ <;> rw [s.quiet.storeWram_eq]
  · rfl
  · exact ⟨rfl, rfl⟩
  · exact ⟨rfl, rfl, rfl, rfl⟩
  · exact ⟨rfl, rfl, rfl⟩
  · exact ⟨rfl, rfl, rfl, rfl⟩

/-- Settles O43: the strobe writes the latch, the quirk the PRG window and an override the CHR windows. -/
theorem latchQuirkAndOverrideFrames : Obligations.LatchQuirkAndOverrideFrames := by
  intro s t i hi h
  have he := exec_effect h
  rcases hi with hi | hi | hi
  · rw [hi] at he ⊢
    obtain ⟨-, _, -, rfl⟩ := he
    exact ⟨rfl, ⟨rfl, rfl, rfl⟩, ⟨rfl, rfl, rfl, rfl⟩, fun _ => rfl, fun _ => ⟨rfl, rfl, rfl, rfl⟩, nofun, nofun⟩
  · rw [hi] at he ⊢
    obtain ⟨-, rfl⟩ := he
    exact ⟨rfl, ⟨rfl, rfl, rfl⟩, ⟨rfl, rfl, rfl, rfl⟩, fun _ => rfl, nofun, fun _ => ⟨⟨rfl, rfl⟩, rfl, rfl, rfl⟩, nofun⟩
  · obtain ⟨hprg, hwin, -⟩ := exec_override_frame hi h
    rw [hi] at he ⊢
    obtain ⟨-, _, rfl⟩ := he
    exact ⟨rfl, ⟨rfl, rfl, rfl⟩, ⟨rfl, rfl, rfl, rfl⟩, fun _ => rfl, nofun, nofun, fun _ => ⟨⟨rfl, rfl⟩, hprg, hwin⟩⟩

/-- Settles O44: the first three hand something out and change nothing; a power-on writes registers, `lastStrobe`, windows
and phase. -/
theorem lifecycleFrames : Obligations.LifecycleFrames := by
  intro s t i h
  refine ⟨fun hi => ?_, fun hi => ?_⟩
  · obtain ⟨_, rfl⟩ := exec_emit_eq hi h
    exact ⟨rfl, ⟨rfl, rfl⟩, ⟨rfl, rfl, rfl, rfl⟩, ⟨rfl, rfl, rfl⟩, ⟨rfl, rfl, rfl, rfl⟩, fun _ => rfl⟩
  · have he := exec_effect h
    rw [hi] at he
    obtain ⟨-, -, _, rfl⟩ := he
    exact ⟨rfl, rfl, rfl, ⟨rfl, rfl, rfl, rfl⟩, fun _ => rfl⟩

/-- Settles O60: every part but the interrupt hook hands out something else. -/
theorem interruptRequestChangesNothingElse : Obligations.InterruptRequestChangesNothingElse := by
  intro s t i h hout
  have hi : roleOf i = .irq := by
    by_contra hi
    exact (exec_frame h).noRequest hi hout
  have he := exec_effect h
  rw [hi] at he
  obtain ⟨hs, hevent, rfl⟩ := he
  exact ⟨hs.1, hevent, rfl⟩

end Sys2Proof.Machine
end

section
/-! PROOF. The statements about when a row completes and when it is refused: first the phase and variant tests, then the
rows by phase, then the obligations. -/

namespace Sys2Proof.Machine

/-! ## The variant tests in phase `Running` (10_state.md R20) -/

theorem runningIn_otherVariant {s t : State} {v : Variant} (hp : s.phase = .running) (hv : s.variant ≠ v) :
    runningIn v s t = .refused .otherVariant := by
  rw [runningIn, whenRunning_running hp, forVariant, if_neg hv]

theorem forBoard_template {s : State} {k : Result} (hv : s.variant = .vTemplate) :
    forBoard s k = .refused .otherVariant := if_pos hv

theorem runningBoard_template {s t : State} (hp : s.phase = .running) (hv : s.variant = .vTemplate) :
    runningBoard s t = .refused .otherVariant := by
  rw [runningBoard, whenRunning_running hp, forBoard_template hv]

theorem live_of_running {s : State} (hp : s.phase = .running) : s.phase ≠ .tornDown := by
  rw [hp]
  nofun

/-! ## The rows by phase (10_state.md R36) -/

/-- Before the first power-on the phase test of each row but these answers first. -/
theorem exec_created {s : State} {i : Instr} (hs : s.phase = .created) (hcreate : roleOf i ≠ .create)
    (hpower : roleOf i ≠ .power) (hteardown : roleOf i ≠ .teardown) (hbatload : roleOf i ≠ .batload)
    (hbatsave : ∀ n, i ≠ .batsave n) : exec i s = .refused .notPowered := by
  cases i with
  | create _ _ _ => exact absurd rfl hcreate
  | power164 _ | power163 _ | powerFs304 _ | powerT _ => exact absurd rfl hpower
  | teardown _ => exact absurd rfl hteardown
  | batload _ _ => exact absurd rfl hbatload
  | batsave n => exact absurd rfl (hbatsave n)
  | _ => exact whenRunning_created hs

/-- In phase `Running` the variant test of a row of the instance's variant passes. -/
theorem exec_running {s : State} {i : Instr} (hp : s.phase = .running) (hi : i.inVariant s.variant = true)
    (hbatload : roleOf i ≠ .batload) (hbatsave : ∀ n, i = .batsave n → s.battery = true ∧ s.variant ≠ .vTemplate)
    (hrestore : ∀ n fs, i = .restore n fs → fieldSizesRight fs) : ∃ t, exec i s = .next t := by
  have hlive := live_of_running hp
  cases i with
  | batload _ _ => exact absurd rfl hbatload
  | batsave n =>
    obtain ⟨hb, hv⟩ := hbatsave n rfl
    exact ⟨_, (whenPowerable_live hlive).trans (withBattery_backed hb hv)⟩
  | restore n fs => exact ⟨_, exec_restore_ready n ⟨of_decide_eq_true hi, hp⟩ (hrestore n fs rfl)⟩
  | power164 _ | power163 _ | powerFs304 _ | powerT _ =>
    exact ⟨_, whenPowerable_forVariant_live hlive (of_decide_eq_true hi)⟩
  | teardown n => exact ⟨_, exec_teardown_live n hlive⟩
  | create _ _ _ => exact ⟨_, rfl⟩
  | prgR _ | prgW _ _ | chrR _ | reset _ => exact ⟨_, whenRunning_running hp⟩
  | wramW _ _ | wramR _ | save _ => exact ⟨_, runningBoard_ready ⟨of_decide_eq_true hi, hp⟩⟩
  | _ => exact ⟨_, runningIn_ready ⟨of_decide_eq_true hi, hp⟩⟩

/-- In phase `Running` the variant test of a row of another variant fails. -/
theorem exec_otherVariant {s : State} {i : Instr} (hp : s.phase = .running) (hi : i.inVariant s.variant = false) :
    exec i s = .refused .otherVariant := by
  cases i with
  | prgR _ | prgW _ _ | chrR _ | reset _ | teardown _ | create _ _ _ | batload _ _ | batsave _ => exact nomatch hi
  | power164 _ | power163 _ | powerFs304 _ | powerT _ =>
    exact (whenPowerable_live (live_of_running hp)).trans (if_neg (of_decide_eq_false hi))
  | wramW _ _ | wramR _ | save _ => exact runningBoard_template hp (not_not.mp (of_decide_eq_false hi))
  | restore _ _ => exact (whenRunning_running hp).trans (forBoard_template (not_not.mp (of_decide_eq_false hi)))
  | _ => exact runningIn_otherVariant hp (of_decide_eq_false hi)

/-! ## The obligations -/

/-- Settles O37, by the phase test each row makes first. -/
theorem refusedOutsideRunning : Obligations.RefusedOutsideRunning :=
  fun _ _ => ⟨exec_created, fun hs hcreate => exec_tornDown hs fun _ _ _ hi => hcreate (hi ▸ rfl)⟩

/-- Settles O38: a row of the variant passes its phase and variant tests, and the two rows with a test more are given it. -/
theorem runningInstanceCompletesItsRows : Obligations.RunningInstanceCompletesItsRows :=
  fun _ _ => exec_running

/-- Settles O39: every row of some variants alone makes its variant test after the phase test. -/
theorem rowsOfOtherVariantsAreRefused : Obligations.RowsOfOtherVariantsAreRefused :=
  fun _ _ => exec_otherVariant

end Sys2Proof.Machine
end

section
/-! PROOF. The statements about the invariant: first what it says by variant, then the states each kind of row leaves, then
that every row keeps it, then the obligations. -/

namespace Sys2Proof.Machine

/-! ## What the invariant says (10_state.md R40) -/

theorem windowsLegal_v164 {s : State} (h : s.variant = .v164) :
    s.windowsLegal ↔ s.wramWin = true ∧ s.prgWin = some (formulaA s.reg) ∧ s.chrIs 0 1 := by
  rw [State.windowsLegal, h]

theorem windowsLegal_v163 {s : State} (h : s.variant = .v163) :
    s.windowsLegal ↔ s.wramWin = true ∧ (s.prgWin = some (formulaA s.reg) ∨ s.prgWin = some 3) ∧
      (s.chrIs 0 1 ∨ (splitChr s.reg = true ∧ (s.chrIs 0 0 ∨ s.chrIs 1 1))) := by
  rw [State.windowsLegal, h]

theorem windowsLegal_vFS304 {s : State} (h : s.variant = .vFS304) :
    s.windowsLegal ↔ s.wramWin = true ∧ s.prgWin = some (formulaC s.fs304Formulas s.reg) ∧ s.chrIs 0 1 := by
  rw [State.windowsLegal, h]

theorem windowsLegal_vTemplate {s : State} (h : s.variant = .vTemplate) : s.windowsLegal ↔ s.unmapped := by
  rw [State.windowsLegal, h]

/-- The windows Sync computes are legal. -/
theorem windowsLegal_of_sync {s : State} (hv : s.variant ≠ .vTemplate) (h : s.sync = s) : s.windowsLegal := by
  obtain ⟨hwin, hchr⟩ := State.sync_board hv
  rw [h] at hwin hchr
  cases hs : s.variant with
  | v164 =>
    have hprg := congrArg State.prgWin (h.symm.trans (State.sync_eq_syncAB (.inl hs)))
    exact (windowsLegal_v164 hs).mpr ⟨hwin, hprg, hchr⟩
  | v163 =>
    have hprg := congrArg State.prgWin (h.symm.trans (State.sync_eq_syncAB (.inr hs)))
    exact (windowsLegal_v163 hs).mpr ⟨hwin, .inl hprg, .inl hchr⟩
  | vFS304 =>
    have hprg := congrArg State.prgWin (h.symm.trans (State.sync_eq_syncC hs))
    exact (windowsLegal_vFS304 hs).mpr ⟨hwin, hprg, hchr⟩
  | vTemplate => exact absurd hs hv

/-- Whatever its phase, a template has no window mapped. -/
theorem State.Inv.template_unmapped {s : State} (hs : s.Inv) (hv : s.variant = .vTemplate) : s.unmapped := by
  by_cases hp : s.phase = .running
  · exact (windowsLegal_vTemplate hv).mp (hs.windows hp)
  · exact hs.idle hp

/-- A running board has its work RAM mapped. -/
theorem State.Inv.board_wramWin {s : State} (hs : s.Inv) (hb : s.boardReady) : s.wramWin = true := by
  have hlegal := hs.windows hb.2
  cases hv : s.variant with
  | v164 => exact ((windowsLegal_v164 hv).mp hlegal).1
  | v163 => exact ((windowsLegal_v163 hv).mp hlegal).1
  | vFS304 => exact ((windowsLegal_vFS304 hv).mp hlegal).1
  | vTemplate => exact absurd hv hb.1

/-- Of a running board the invariant asks a canonical work RAM and legal windows. -/
theorem State.Inv.of_board {s : State} (hb : s.boardReady) (hwf : Memory.wf Config.wramSize s.wram = true)
    (hwin : s.windowsLegal) : s.Inv where
  wram_wf := hwf
  windows _ := hwin
  idle hp := absurd hb.2 hp
  tmpl hv := absurd hv hb.1
  fresh hp := nomatch hb.2.symm.trans hp
  gone hp := nomatch hb.2.symm.trans hp

/-- The queue, what is handed out and the count of draws are the model's own: the invariant does not speak of them. -/
theorem State.Inv.of_outputs {s : State} (hs : s.Inv) (p : List Delivery) (o : Output) (n : Nat) :
    State.Inv { s with pending := p, out := o, draws := n } :=
  ⟨hs.wram_wf, hs.windows, hs.idle, hs.tmpl, hs.fresh, hs.gone⟩

/-! ## What a row leaves in the work RAM (10_state.md R34) -/

theorem wramOffset_lt (a : Addr) : wramOffset a < Config.wramSize := (a.extractLsb' 0 13).isLt

theorem wf_storeWram {s : State} (a : Addr) (d : Byte) (h : Memory.wf Config.wramSize s.wram = true) :
    Memory.wf Config.wramSize (s.storeWram (wramOffset a) d).wram = true := by
  rcases s.storeWram_cases (wramOffset a) d with ⟨-, hstore⟩ | ⟨-, hstore⟩ <;> rw [hstore]
  · exact Memory.wf_write d h (wramOffset_lt a)
  · exact h

/-- A field `WRAM` of the right size lists its bytes in canonical form. -/
theorem wf_loadFields {s : State} {fs : List SavedField} (hfs : fieldsWf fs = true) (hsizes : fieldSizesRight fs)
    (h : Memory.wf Config.wramSize s.wram = true) : Memory.wf Config.wramSize (s.loadFields fs).wram = true := by
  rw [State.loadFields_wram]
  cases hfield : fieldOf .wram fs with
  | none => exact h
  | some b =>
    obtain ⟨f, hmem, rfl⟩ := fieldOf_mem hfield
    obtain ⟨-, -, -, hsize⟩ := hsizes
    have hwf : f.bytes.wf = true := List.all_eq_true.mp (Bool.and_eq_true_iff.mp hfs).2 f hmem
    rw [Bytes.wf, hsize _ hfield] at hwf
    exact hwf

/-! ## What a row leaves in the windows (10_state.md R40) -/

/-- The register writes that do not Sync are of `reg[2]`, which formula A does not read. -/
theorem exec_regWrite_windowsLegal {s t : State} {i : Instr} {r : RegName} (hs : s.Inv)
    (hi : roleOf i = .regWrite r false) (h : exec i s = .next t) : t.windowsLegal := by
  cases i with
  | w164Reg2 _ d =>
    obtain ⟨hready, rfl⟩ := exec_next h
    exact (windowsLegal_v164 (s := s.quiet.setReg .r2 d) hready.1).mpr
      ((windowsLegal_v164 hready.1).mp (hs.windows hready.2))
  | w163Reg2 _ d =>
    obtain ⟨hready, rfl⟩ := exec_next h
    exact (windowsLegal_v163 (s := s.quiet.setReg .r2 d) hready.1).mpr
      ((windowsLegal_v163 hready.1).mp (hs.windows hready.2))
  | _ => exact nomatch hi

theorem windowsLegal_forcePrg {s : State} (hs : s.Inv) (hready : s.readyAs .v163) :
    (s.quiet.forcePrg 3).windowsLegal := by
  obtain ⟨hwin, -, hchr⟩ := (windowsLegal_v163 hready.1).mp (hs.windows hready.2)
  exact (windowsLegal_v163 (s := s.quiet.forcePrg 3) hready.1).mpr ⟨hwin, .inr rfl, hchr⟩

/-- An override is one of the two banks in split-CHR mode. -/
theorem windowsLegal_scanlineOverride {s : State} {b : Byte} (hs : s.Inv) (hready : s.readyAs .v163)
    (hb : b = 0 ∨ b = 1) : (s.quiet.scanlineOverride b).windowsLegal := by
  have hlegal := hs.windows hready.2
  rcases s.quiet.scanlineOverride_cases b with ⟨hsplit, h⟩ | ⟨-, h⟩ <;> rw [h]
  · obtain ⟨hwin, hprg, -⟩ := (windowsLegal_v163 hready.1).mp hlegal
    have hbanks : (s.quiet.overrideChr b).chrIs 0 0 ∨ (s.quiet.overrideChr b).chrIs 1 1 := by
      rcases hb with rfl | rfl
      · exact .inl ⟨rfl, rfl⟩
      · exact .inr ⟨rfl, rfl⟩
    exact (windowsLegal_v163 (s := s.quiet.overrideChr b) hready.1).mpr ⟨hwin, hprg, .inr ⟨hsplit, hbanks⟩⟩
  · exact hlegal

/-- The two override events name CHR banks 0 and 1 (42_scanline_hook.md R191, R192). -/
theorem exec_override {s t : State} {i : Instr} (hi : roleOf i = .override) (h : exec i s = .next t) :
    s.readyAs .v163 ∧ ∃ b, (b = 0 ∨ b = 1) ∧ t = s.quiet.scanlineOverride b := by
  cases i with
  | ev163Sl239 =>
    obtain ⟨hready, rfl⟩ := exec_next h
    exact ⟨hready, 0, .inl rfl, rfl⟩
  | ev163Sl127 =>
    obtain ⟨hready, rfl⟩ := exec_next h
    exact ⟨hready, 1, .inr rfl, rfl⟩
  | _ => exact nomatch hi

/-! ## Every row keeps the invariant (10_state.md R40) -/

/-- A power-on of a board Syncs; the template's changes its phase alone. -/
theorem exec_power_keeps_inv {s t : State} {i : Instr} (hs : s.Inv) (hi : roleOf i = .power) (h : exec i s = .next t) :
    t.Inv := by
  have he := exec_effect h
  rw [hi] at he
  obtain ⟨-, ⟨n, hrow⟩, u, ht⟩ := he
  by_cases hv : s.variant = .vTemplate
  · rw [hrow, hv] at h
    obtain ⟨-, -, rfl⟩ := exec_next h
    have hwin := hs.template_unmapped hv
    exact ⟨hs.wram_wf, fun _ => (windowsLegal_vTemplate (s := (s.emit _).setPhase .running) hv).mpr hwin, fun _ => hwin,
      hs.tmpl, nofun, nofun⟩
  · have hsync : t.sync = t := (exec_syncs (by rw [hi]; rfl) h).2
    subst ht
    exact .of_board ⟨hv, rfl⟩ hs.wram_wf (windowsLegal_of_sync hv hsync)

/-- Every row with admitted operands keeps the invariant, part by part. -/
theorem exec_keeps_inv {s t : State} {i : Instr} (hwf : i.wellFormed = true) (hs : s.Inv) (h : exec i s = .next t) :
    t.Inv := by
  have he := exec_effect h
  generalize hi : roleOf i = r at he
  cases r with
  | regWrite r b =>
    obtain ⟨hb, -, d, u, ht⟩ := he
    have hwin : t.windowsLegal := by
      cases b with
      | true =>
        obtain ⟨hv, hsync⟩ := exec_syncs (by rw [hi]; rfl) h
        exact windowsLegal_of_sync (hv ▸ hb.1) hsync
      | false => exact exec_regWrite_windowsLegal hs hi h
    subst ht
    exact .of_board hb hs.wram_wf hwin
  | forcePrg =>
    obtain ⟨hready, rfl⟩ := he
    exact .of_board (readyAs_board hready nofun) hs.wram_wf (windowsLegal_forcePrg hs hready)
  | strobe =>
    obtain ⟨hready, d, -, rfl⟩ := he
    exact .of_board (readyAs_board hready nofun) hs.wram_wf (hs.windows hready.2)
  | override =>
    obtain ⟨hready, b, hb, rfl⟩ := exec_override hi h
    have hwin := windowsLegal_scanlineOverride hs hready hb
    rw [s.quiet.scanlineOverride_eq_withWindowsOf b] at hwin ⊢
    exact .of_board (readyAs_board hready nofun) hs.wram_wf hwin
  | wramStore =>
    obtain ⟨hb, a, d, rfl⟩ := he
    exact .of_board hb (wf_storeWram (s := s.quiet) a d hs.wram_wf) (hs.windows hb.2)
  | read =>
    obtain ⟨-, o, n, rfl, -⟩ := he
    exact hs.of_outputs s.pending o n
  | noEffect | irq | save =>
    obtain ⟨o, rfl⟩ := exec_emit_eq (by simp [hi]) h
    exact hs.of_outputs s.pending o s.draws
  | power => exact exec_power_keeps_inv hs hi h
  | restore =>
    obtain ⟨hb, fs, u, ⟨n, rfl⟩, hsizes, rfl⟩ := he
    exact .of_board hb (wf_loadFields (s := s.quiet) hwf hsizes hs.wram_wf)
      (windowsLegal_of_sync hb.1 (exec_syncs rfl h).2)
  | teardown =>
    obtain ⟨-, rfl⟩ := he
    exact ⟨rfl, nofun, fun _ => ⟨rfl, rfl, rfl, rfl⟩, fun hv => ⟨rfl, (hs.tmpl hv).2⟩, nofun, fun _ => rfl⟩
  | create =>
    obtain ⟨b, v, rfl⟩ := he
    exact ⟨rfl, nofun, fun _ => ⟨rfl, rfl, rfl, rfl⟩, fun _ => ⟨rfl, rfl, rfl, rfl⟩, fun _ => ⟨rfl, rfl, rfl⟩, nofun⟩
  | batload =>
    obtain ⟨hp, hv, image, ⟨n, rfl⟩, rfl⟩ := he
    obtain ⟨himage, hsize⟩ := Bool.and_eq_true_iff.mp hwf
    rw [Bytes.wf, of_decide_eq_true hsize] at himage
    exact ⟨himage, hs.windows, hs.idle, fun ht => absurd ht hv, hs.fresh, fun hgone => nomatch hp.symm.trans hgone⟩

/-! ## The obligations -/

/-- Settles O51: a step is idle or runs a row that the decoder read, whose operands are therefore admitted. -/
theorem stepKeepsTheInvariant : Obligations.StepKeepsTheInvariant := by
  intro s t hs h
  rcases step_next h with ⟨-, rfl⟩ | ⟨dl, rest, i, -, hdec, hexec⟩
  · exact hs
  · obtain ⟨-, hwf, -⟩ := decode_standsFor hdec
    exact exec_keeps_inv hwf (hs.of_outputs rest s.out s.draws) hexec

/-- Settles O50: reset is a running board with an empty work RAM and the windows Sync computes. -/
theorem resetMeetsTheInvariant : Obligations.ResetMeetsTheInvariant :=
  .of_board ⟨nofun, rfl⟩ rfl (windowsLegal_of_sync nofun rfl)

/-- Settles O23: a running instance without a mapped work RAM is no board, and outside phase `Running` the phase test of
the four work-RAM rows answers. -/
theorem unmappedWramIsNotServed : Obligations.UnmappedWramIsNotServed := by
  intro s a d hs hwin ha
  rw [decode_busw, decodeBusWrite_wram _ d ha, decode_busr, decodeBusRead_wram _ ha]
  refine ⟨fun hp => ?_, fun i hi => ?_⟩
  · have hv : s.variant = .vTemplate := by
      by_contra hv
      exact ne_true_of_eq_false hwin (hs.board_wramWin ⟨hv, hp⟩)
    rw [decodeWramWrite, if_pos hv, decodeWramRead, if_pos hv]
    exact ⟨hv, rfl, runningIn_ready ⟨hv, hp⟩, rfl, exec_undriven ⟨hv, hp⟩ rfl⟩
  · rcases hi with hi | hi
    · obtain rfl := Except.ok.inj hi
      unfold decodeWramWrite
      split <;> exact ⟨whenRunning_created, whenRunning_tornDown⟩
    · obtain rfl := Except.ok.inj hi
      unfold decodeWramRead
      split <;> exact ⟨whenRunning_created, whenRunning_tornDown⟩

end Sys2Proof.Machine
end

section
/-! PROOF. The statements about runs of several rows and about two runs side by side: first a run of strobe writes, then a
CHR override along a run, then two states that differ in `lastStrobe` alone, then the obligations. -/

namespace Sys2Proof.Machine

/-! ## A run of strobe writes (43_protection_latch.md R212) -/

theorem exec_strobe {s : State} (d : Byte) (hs : s.readyAs .v163) :
    exec (.w163Strobe d) s = .next (s.quiet.setLatch d (strobeTrigger s.lastStrobe s.trigger d)) :=
  runningIn_ready hs

/-- `trigger` with bit 0 inverted `n` times. -/
def toggled (trigger : Byte) (n : Nat) : Byte := if n % 2 = 1 then trigger ^^^ 0x01 else trigger

/-- Inverting bit 0 twice gives the byte back. -/
theorem toggled_toggled (trigger : Byte) (n m : Nat) : toggled (toggled trigger n) m = toggled trigger (n + m) := by
  unfold toggled
  rcases Nat.mod_two_eq_zero_or_one n with hn | hn <;>
    rcases Nat.mod_two_eq_zero_or_one m with hm | hm <;> simp [Nat.add_mod, hn, hm]

/-- One strobe write inverts bit 0 once for its falling edge. -/
theorem strobeTrigger_eq_toggled (last trigger d : Byte) :
    strobeTrigger last trigger d = toggled trigger (if last ≠ 0x00 ∧ d = 0x00 then 1 else 0) := by
  by_cases hedge : last ≠ 0x00 ∧ d = 0x00
  · obtain ⟨hlast, rfl⟩ := hedge
    rw [strobeTrigger_fall _ hlast, if_pos ⟨hlast, rfl⟩]
    rfl
  · rw [strobeTrigger_of_not_fall _ hedge, if_neg hedge]
    rfl

/-- A run of strobe writes writes the latch alone: the last value, and one inversion for each falling edge. -/
theorem execAll_strobes (ds : List Byte) {s : State} (hs : s.readyAs .v163) :
    ∃ o, execAll (ds.map Instr.w163Strobe) s =
      .next ((s.emit o).setLatch (ds.getLastD s.lastStrobe) (toggled s.trigger (fallingEdges s.lastStrobe ds))) := by
  induction ds generalizing s with
  | nil => exact ⟨s.out, rfl⟩
  | cons d ds ih =>
    have hstep := exec_strobe d hs
    obtain ⟨o, hrun⟩ := ih (s := s.quiet.setLatch d (strobeTrigger s.lastStrobe s.trigger d)) hs
    refine ⟨o, ?_⟩
    rw [List.map_cons, execAll_cons _ _ hstep, hrun, List.getLastD_cons, fallingEdges, ← toggled_toggled,
      ← strobeTrigger_eq_toggled]
    rfl

/-! ## A CHR override along a run (42_scanline_hook.md R194) -/

/-- A running variant-163 instance with CHR bank `b` in both halves. -/
def State.chrOverridden (s : State) (b : Byte) : Prop := s.readyAs .v163 ∧ s.chrIs b b

theorem exec_override_chrOverridden {s t : State} {o : Instr} {b : Byte} (hs : s.readyAs .v163)
    (hsplit : s.reg.r1.getLsbD 7 = true) (ho : (o = .ev163Sl239 ∧ b = 0) ∨ (o = .ev163Sl127 ∧ b = 1))
    (h : exec o s = .next t) : t.chrOverridden b := by
  have hnext : exec o s = .next (s.quiet.overrideChr b) := by
    rcases ho with ⟨rfl, rfl⟩ | ⟨rfl, rfl⟩ <;> exact exec_override_of_split hs hsplit rfl
  rw [hnext, next_inj] at h
  subst h
  exact ⟨hs, rfl, rfl⟩

/-- Rows that neither Sync nor override nor make or end an instance keep the override, the quirk included. -/
theorem exec_keeps_chrOverridden {s t : State} {i : Instr} {b : Byte}
    (hi : keepsWindows (roleOf i) = true ∨ roleOf i = .forcePrg) (hs : s.chrOverridden b) (h : exec i s = .next t) :
    t.chrOverridden b := by
  obtain ⟨⟨hv, hp⟩, hlo, hhi⟩ := hs
  rcases hi with hkeep | hforce
  · obtain ⟨⟨-, hchrLo, hchrHi, -⟩, hvariant, -, hphase⟩ := exec_keepsWindows hkeep h
    exact ⟨⟨hvariant.trans hv, hphase.trans hp⟩, hchrLo.trans hlo, hchrHi.trans hhi⟩
  · have he := exec_effect h
    rw [hforce] at he
    obtain ⟨-, rfl⟩ := he
    exact ⟨⟨hv, hp⟩, hlo, hhi⟩

/-- After a syncing row of a board the CHR windows hold banks 0 and 1. -/
theorem exec_syncs_chrIs {s t : State} {i : Instr} (hv : s.variant ≠ .vTemplate) (hi : syncs (roleOf i) = true)
    (h : exec i s = .next t) : t.chrIs 0 1 := by
  obtain ⟨hvariant, hsync⟩ := exec_syncs hi h
  rw [← hsync]
  exact (State.sync_board (hvariant ▸ hv)).2

/-! ## Two states that differ in `lastStrobe` alone (10_state.md R39) -/

/-- `s` with another strobe value. -/
def State.withLastStrobe (s : State) (x : Byte) : State := { s with lastStrobe := x }

theorem State.loadWram_withLastStrobe (s : State) (x : Byte) (k : Nat) :
    (s.withLastStrobe x).loadWram k = (s.loadWram k).withLastStrobe x := by
  rw [State.loadWram, State.loadWram, apply_ite (State.withLastStrobe · x)]
  rfl

theorem State.storeWram_withLastStrobe (s : State) (x : Byte) (k : Nat) (d : Byte) :
    (s.withLastStrobe x).storeWram k d = (s.storeWram k d).withLastStrobe x := by
  rw [State.storeWram, State.storeWram, apply_ite (State.withLastStrobe · x)]
  rfl

theorem State.scanlineOverride_withLastStrobe (s : State) (x b : Byte) :
    (s.withLastStrobe x).scanlineOverride b = (s.scanlineOverride b).withLastStrobe x := by
  rw [State.scanlineOverride, State.scanlineOverride, apply_ite (State.withLastStrobe · x)]
  rfl

theorem State.sync_withLastStrobe (s : State) (x : Byte) : (s.withLastStrobe x).sync = s.sync.withLastStrobe x := by
  rcases s.sync_cases with ⟨hv, h⟩ | ⟨hv, h⟩ | ⟨hv, h⟩ <;> rw [h]
  · exact State.sync_eq_syncAB (s := s.withLastStrobe x) hv
  · exact State.sync_eq_syncC (s := s.withLastStrobe x) hv
  · exact State.sync_of_template (s := s.withLastStrobe x) hv

/-- A row that does not read `lastStrobe` completes with another strobe value too, and ends in the same state but for it. -/
theorem exec_withLastStrobe {s t : State} (x : Byte) {i : Instr} (hstrobe : roleOf i ≠ .strobe)
    (hsave : ∀ n, i ≠ .save n) (h : exec i s = .next t) :
    ∃ y, exec i (s.withLastStrobe x) = .next (t.withLastStrobe y) := by
  cases i with
  | w163Strobe _ => exact absurd rfl hstrobe
  | save n => exact absurd rfl (hsave n)
  | prgR a =>
    obtain ⟨hp, -⟩ := exec_next h
    cases hw : s.prgWin with
    | none =>
      obtain rfl := next_inj.mp ((exec_prgR_none a hp hw).symm.trans h)
      exact ⟨x, exec_prgR_none (s := s.withLastStrobe x) a hp hw⟩
    | some idx =>
      obtain rfl := next_inj.mp ((exec_prgR_some a hp hw).symm.trans h)
      exact ⟨x, exec_prgR_some (s := s.withLastStrobe x) a hp hw⟩
  | chrR p =>
    obtain ⟨hp, -⟩ := exec_next h
    cases hb : s.chrBank p with
    | none =>
      obtain rfl := next_inj.mp ((exec_chrR_none hp hb).symm.trans h)
      exact ⟨x, exec_chrR_none (s := s.withLastStrobe x) hp hb⟩
    | some idx =>
      obtain rfl := next_inj.mp ((exec_chrR_some hp hb).symm.trans h)
      exact ⟨x, exec_chrR_some (s := s.withLastStrobe x) hp hb⟩
  | wramR a =>
    obtain ⟨hs, rfl⟩ := exec_next h
    exact ⟨x, (runningBoard_ready hs).trans (congrArg _ (s.loadWram_withLastStrobe x _))⟩
  | wramW a d =>
    obtain ⟨hs, rfl⟩ := exec_next h
    exact ⟨x, (runningBoard_ready hs).trans (congrArg _ (s.quiet.storeWram_withLastStrobe x _ d))⟩
  | ev163Sl239 | ev163Sl127 =>
    obtain ⟨hs, rfl⟩ := exec_next h
    exact ⟨x, (runningIn_ready hs).trans (congrArg _ (s.quiet.scanlineOverride_withLastStrobe x _))⟩
  | restore n fs =>
    obtain ⟨hs, hsizes, rfl⟩ := exec_next h
    exact ⟨_, (exec_restore_ready (s := s.withLastStrobe x) n hs hsizes).trans
      (congrArg _ ((s.quiet.loadFields fs).sync_withLastStrobe _))⟩
  | prgW _ _ | reset _ =>
    obtain ⟨hp, rfl⟩ := exec_next h
    exact ⟨x, whenRunning_running hp⟩
  | power163 _ =>
    obtain ⟨hp, hv, rfl⟩ := exec_next h
    exact ⟨s.lastStrobePower163, whenPowerable_forVariant_live hp hv⟩
  | power164 _ | powerFs304 _ | powerT _ =>
    obtain ⟨hp, hv, rfl⟩ := exec_next h
    exact ⟨x, whenPowerable_forVariant_live hp hv⟩
  | teardown n =>
    obtain ⟨hp, rfl⟩ := exec_next h
    exact ⟨x, exec_teardown_live n hp⟩
  | create _ battery v =>
    obtain rfl : s.quiet.newInstance v battery = t := next_inj.mp h
    exact ⟨0x00, rfl⟩
  | batload n image =>
    obtain ⟨hp, hb, hv, rfl⟩ := exec_next h
    exact ⟨x, exec_batload_created n image hp hb hv⟩
  | batsave _ =>
    obtain ⟨hp, hb, hv, rfl⟩ := exec_next h
    exact ⟨x, (whenPowerable_live hp).trans (withBattery_backed hb hv)⟩
  | _ =>
    obtain ⟨hs, rfl⟩ := exec_next h
    exact ⟨x, runningIn_ready hs⟩

/-! ## The obligations -/

/-- Settles O52: the run writes the latch alone, with one inversion for each falling edge. -/
theorem strobeRunCountsFallingEdges : Obligations.StrobeRunCountsFallingEdges := by
  intro ds s hs
  obtain ⟨o, hrun⟩ := execAll_strobes ds hs
  exact ⟨_, hrun, rfl, rfl, rfl, ⟨rfl, rfl, rfl, rfl⟩, ⟨rfl, rfl, rfl⟩, fun _ => rfl⟩

/-- Settles O55: the override is an invariant of the run, and the next syncing row pushes CHR bank 0 of 8 KiB. -/
theorem overrideLastsUntilSync : Obligations.OverrideLastsUntilSync := by
  intro s t u o b is i hs hsplit ho hover hkeep hrun
  obtain ⟨⟨hv, -⟩, hchr⟩ : u.chrOverridden b :=
    execAll_keeps (fun j hj _ _ hs h => exec_keeps_chrOverridden (hkeep j hj) hs h)
      (exec_override_chrOverridden hs hsplit ho hover) hrun
  exact ⟨hchr, fun w hi h => exec_syncs_chrIs (by rw [hv]; nofun) hi h⟩

/-- Settles O58: no row but the two reads `lastStrobe`, so the second run ends in the first one's state but for it. -/
theorem lastStrobeIsHidden : Obligations.LastStrobeIsHidden := by
  intro s t x i hstrobe hsave h
  obtain ⟨y, hy⟩ := exec_withLastStrobe x hstrobe hsave h
  exact ⟨_, hy, rfl, rfl⟩

end Sys2Proof.Machine
end

section
/-! PROOF. The remaining statements: first the formulas as sums of their fields and UNLFS304's register writes, then one
step of the machine, then the rows that power on and fill a board, then the obligations. -/

namespace Sys2Proof.Machine

/-! ## The formulas as sums of their fields (41_bank_sync.md R171) -/

/-- A register field as a number. -/
theorem toNat_field (x : Byte) (i n : Nat) : (x.extractLsb' i n).toNat = x.toNat / 2 ^ i % 2 ^ n := by
  rw [BitVec.extractLsb'_toNat, Nat.shiftRight_eq_div_pow]

/-! ## UNLFS304's register writes (40_write_decoder.md R135-R138) -/

/-- Formula C is the index of the bit table under the default formulas, and another set's byte otherwise. -/
theorem formulaC_eq_indexC (p : Fs304Formulas) (f : RegFile) : formulaC p f = indexC p f := by
  cases p with
  | standard => exact formulaCAgreesWithTheBitTable f
  | other n =>
    rw [indexC]
    cases h2 : f.r3.getLsbD 2 <;> cases h0 : f.r3.getLsbD 0 <;> rw [formulaC_eq h2 h0]
    · exact BitVec.setWidth_eq_append (by decide)
    · exact BitVec.setWidth_eq_append (by decide)
    · exact BitVec.setWidth_eq_append (by decide)
    · rw [← fsCase57_eq_append]
      exact BitVec.setWidth_eq_append (by decide)

/-- A register write followed by SYNC_C, said by the bit table of 41_bank_sync.md R173. -/
theorem setReg_syncC_eq_syncedC (s : State) (r : RegName) (d : Byte) :
    (s.quiet.setReg r d).syncC = s.syncedC (s.reg.set d r) :=
  congrArg (fun b => (s.quiet.setReg r d).pushWindows b) (formulaC_eq_indexC s.fs304Formulas (s.reg.set d r))

/-- A configuration write whose row writes register `r` and then runs SYNC_C. -/
theorem cfgWrite_syncedC {s : State} {a : Addr} {d : Byte} {i : Instr} (r : RegName) (hs : s.readyAs .vFS304)
    (ha : a.extractLsb' 12 4 = 0x5#4) (hrow : decodeWriteFs304 a d = i)
    (hi : exec i s = runningIn .vFS304 s (s.quiet.setReg r d).syncC) :
    decode .vFS304 (.busw (a ++ d)) = .ok i ∧ exec i s = .next (s.syncedC (s.reg.set d r)) := by
  rw [← setReg_syncC_eq_syncedC]
  exact cfgWrite_ready hs ha hrow hi

/-! ## One step (20_memory.md R70; 10_state.md R36, R37) -/

theorem step_of_decoded {s : State} {dl : Delivery} {rest : List Delivery} {i : Instr} (hp : s.pending = dl :: rest)
    (hd : decode s.variant dl = .ok i) : step s = exec i { s with pending := rest } := by
  rw [step, hp]
  simp only [hd]

theorem step_of_error {s : State} {dl : Delivery} {rest : List Delivery} {e : DecodeError} (hp : s.pending = dl :: rest)
    (hd : decode s.variant dl = .error e) : step s = .refused (refusalOf e) := by
  rw [step, hp]
  simp only [hd]

theorem step_of_idle {s : State} (hp : s.pending = []) : step s = .next s := by
  rw [step, hp]

/-- A table word that decodes has a delivery, which decodes to the same instruction (log 3). -/
theorem decodeTableWord_some {nbits w : Nat} {i : Instr} (h : decodeTableWord nbits w = some i) :
    ∃ dl, tableDelivery nbits w = some dl ∧ decode tableVariant dl = .ok i := by
  unfold decodeTableWord at h
  split at h
  · exact nomatch h
  · next dl hdl =>
    refine ⟨dl, hdl, ?_⟩
    cases hdec : decode tableVariant dl with
    | error e =>
      rw [hdec] at h
      exact nomatch h
    | ok j =>
      rw [hdec] at h
      exact congrArg Except.ok (Option.some.inj h)

theorem State.withFetchWord_eq (s : State) {nbits w : Nat} {dl : Delivery} (h : tableDelivery nbits w = some dl) :
    s.withFetchWord nbits w = { s with pending := dl :: s.pending } := by
  rw [State.withFetchWord, h]

/-- A code that is 0 or above 9 is none of the nine event codes. -/
theorem ne_eventCode {e k : Byte} (he : e.toNat = 0 ∨ 9 < e.toNat) (hk : 1 ≤ k.toNat ∧ k.toNat ≤ 9) : e ≠ k := by
  rintro rfl
  omega

theorem isEventCode_unknown {e : Byte} (he : e.toNat = 0 ∨ 9 < e.toNat) : isEventCode e = false := by
  have hrange : ¬(1 ≤ e.toNat ∧ e.toNat ≤ 9) := by omega
  rw [isEventCode, ← Bool.decide_and]
  exact decide_eq_false hrange

/-- An event code that names no event is refused as such, whatever the payload (30_encoding.md R94). -/
theorem decodeEvent_unknown (v : Variant) {e : Byte} (n : Operand) (p : Payload) (he : e.toNat = 0 ∨ 9 < e.toNat) :
    decodeEvent v e n p = .error .badEvent := by
  have hne : ∀ k : Byte, 1 ≤ k.toNat ∧ k.toNat ≤ 9 → e ≠ k := fun _ => ne_eventCode he
  cases p with
  | none =>
    have hpayload : ¬(e = 0x05 ∨ e = 0x08) := not_or.mpr ⟨hne 0x05 (by decide), hne 0x08 (by decide)⟩
    rw [decodeEvent, decodePlainEvent, if_neg (hne 0x01 (by decide)), if_neg (hne 0x02 (by decide)),
      if_neg (hne 0x03 (by decide)), if_neg (hne 0x04 (by decide)), if_neg (hne 0x06 (by decide)),
      if_neg (hne 0x07 (by decide)), if_neg (hne 0x09 (by decide)), if_neg hpayload]
  | fields fs =>
    rw [decodeEvent, if_neg (hne 0x05 (by decide)), isEventCode_unknown he]
    rfl
  | image b =>
    rw [decodeEvent, if_neg (hne 0x08 (by decide)), isEventCode_unknown he]
    rfl

/-! ## The life of an instance (45_lifecycle.md R250-R254; 44_persistence.md R237) -/

theorem exec_power_live {s t : State} {v : Variant} (n : Operand) (hp : s.phase ≠ .tornDown) (hv : s.variant = v)
    (hrow : exec (decodePower v n) s = whenPowerable s (forVariant v s (.next t))) :
    decode v (.evt (0x02#8 ++ n) .none) = .ok (decodePower v n) ∧ exec (decodePower v n) s = .next t :=
  ⟨decode_powerEvent v n, hrow.trans (whenPowerable_forVariant_live hp hv)⟩

theorem exec_batload_noBattery {s : State} (n : Operand) (image : Bytes) (hp : s.phase = .created)
    (h : s.battery = false ∨ s.variant = .vTemplate) : exec (.batload n image) s = .refused .noBattery := by
  rw [exec, execBatload, hp]
  exact withBattery_none h

theorem exec_batload_running {s : State} (n : Operand) (image : Bytes) (hp : s.phase = .running) :
    exec (.batload n image) s = .refused .notCreated := by
  rw [exec, execBatload, hp]

/-! ## The obligations -/

/-- Settles O18: each formula is its fields appended, and an appended field is added, shifted above the ones after it. -/
theorem formulasAddWithoutCarry : Obligations.FormulasAddWithoutCarry := by
  intro f
  rw [formulaA_eq_append, fsCase57_eq_append, fsCase02_eq_append, fsCase13_eq_append, fsCase46_eq_append]
  simp only [toNat_append_eq, toNat_field, BitVec.toNat_ofNat]
  omega

/-- Settles O13: the register select names the row, and each row is a register write with SYNC_C. -/
theorem writeFs304SetsItsRegisterAndSyncs : Obligations.WriteFs304SetsItsRegisterAndSyncs := by
  intro s a d hs ha
  refine ⟨fun hsel => ?_, fun hsel => ?_, fun hsel => ?_, fun hsel => ?_⟩
  · exact cfgWrite_syncedC .r0 hs ha (by simp [decodeWriteFs304, writeSel, hsel]) rfl
  · exact cfgWrite_syncedC .r1 hs ha (by simp [decodeWriteFs304, writeSel, hsel]) rfl
  · exact cfgWrite_syncedC .r2 hs ha (by simp [decodeWriteFs304, writeSel, hsel]) rfl
  · exact cfgWrite_syncedC .r3 hs ha (by simp [decodeWriteFs304, writeSel, hsel]) rfl

/-- Settles O7, by what is at the head of the queue and how it decodes. -/
theorem stepRunsTheDecodedInstruction : Obligations.StepRunsTheDecodedInstruction :=
  ⟨fun _ _ _ _ => step_of_decoded, fun _ _ _ _ => step_of_error, fun _ => step_of_idle⟩

/-- Settles O8: the word's delivery is placed first, and taking it out again leaves the queue as it was. -/
theorem fetchWordIsTheNextTransaction : Obligations.FetchWordIsTheNextTransaction := by
  intro s nbits w i hv h
  obtain ⟨dl, hdl, hdec⟩ := decodeTableWord_some h
  rw [s.withFetchWord_eq hdl]
  exact step_of_decoded (s := { s with pending := dl :: s.pending }) rfl (hv ▸ hdec)

/-- Settles O6: the decoder's reason for such a code is `BadEvent`, and the step refuses by it. -/
theorem unknownEventCodeIsRefused : Obligations.UnknownEventCodeIsRefused :=
  fun _ w p _ hp hcode => step_of_error hp (decodeEvent_unknown _ (evtOperand w) p hcode)

/-- Settles O29: a live instance's power-on runs to its state, whose PRG bank is the formula of the registers it sets. -/
theorem powerOnSetsTheDocumentedValues : Obligations.PowerOnSetsTheDocumentedValues := by
  intro s n
  refine ⟨fun hp => ?_, fun hp hv => ?_, fun hp hv => ?_, fun hp hv => ?_, fun hp hv => ?_⟩
  · exact ⟨exec_tornDown hp nofun, exec_tornDown hp nofun, exec_tornDown hp nofun, exec_tornDown hp nofun⟩
  · have hbank : formulaA powerRegs164 = 0x00F := formulaA_eq_bank rfl rfl
    rw [← hbank]
    exact exec_power_live n hp hv rfl
  · have hbank : formulaA RegFile.zero = 0x000 := formulaA_eq_bank rfl rfl
    rw [← hbank]
    exact exec_power_live n hp hv rfl
  · have hfields : 0#4 ++ ((0x00 : Byte).extractLsb' 0 4 ++ (0x03 : Byte).extractLsb' 0 4) = 0x003#12 := by decide
    have hselector : (0x07 : Byte).getLsbD 2 = true ∧ (0x07 : Byte).getLsbD 0 = true := by decide
    have hbank : formulaC s.fs304Formulas (powerRegsFs304 s.reg) = 0x003 :=
      (formulaC_case57 (f := powerRegsFs304 s.reg) s.fs304Formulas hselector.1 hselector.2).trans hfields
    rw [← hbank]
    exact exec_power_live n hp hv rfl
  · exact exec_power_live n hp hv rfl

/-- Settles O30: CREATE has no precondition and leaves the fields of a new instance. -/
theorem createMakesAFreshInstance : Obligations.CreateMakesAFreshInstance := by
  intro s upper battery v
  exact ⟨decode_createEvent s.variant v upper battery, _, rfl, rfl, rfl, ⟨rfl, rfl, rfl⟩, fun _ => rfl,
    ⟨rfl, rfl, rfl, rfl⟩, rfl⟩

/-- Settles O35, by the phase and then by the battery. -/
theorem batteryLoadFillsTheWorkRam : Obligations.BatteryLoadFillsTheWorkRam :=
  fun s n image => ⟨decode_batloadEvent s.variant n,
    fun hp hb hv => ⟨_, exec_batload_created n image hp hb hv, rfl, fun _ => rfl⟩,
    exec_batload_noBattery n image, exec_batload_running n image⟩

end Sys2Proof.Machine
end
